-- ==== Sys2Proof/Word.lean ====
section
/-!
DEFINITION. The words of the core: the byte (00_scope.md R10), the pixel (10_state.md R35), and the three channels.
-/
namespace Sys2Proof

/-- A byte is 8 bits, value 0 to 255 (00_scope.md R10). -/
abbrev Byte := BitVec 8

/-- A pixel is "three 8-bit channels (red, green, blue), each clamped to [0,255]" (00_scope.md R10, R16). -/
structure Pixel where
  r : Byte
  g : Byte
  b : Byte
deriving DecidableEq, Repr, Inhabited

/-- The three channels that `px.c` ranges over (00_scope.md R10). -/
inductive Channel where
  | r
  | g
  | b
deriving DecidableEq, Repr, Inhabited

namespace Pixel

/-- The pixel (0, 0, 0). -/
def black : Pixel := ⟨0, 0, 0⟩

/-- One channel of a pixel, `px.c` (00_scope.md R10). -/
def channel (px : Pixel) : Channel → Byte
  | .r => px.r
  | .g => px.g
  | .b => px.b

/-- The same function applied "for each channel" (00_scope.md R10). -/
def mapChannels (f : Byte → Byte) (px : Pixel) : Pixel := ⟨f px.r, f px.g, f px.b⟩

end Pixel

end Sys2Proof
end

