-- ==== Sys2Proof/Syntax.lean ====
section
/-!
DEFINITION. The host command set as syntax: one constructor of `Instr` per row of spec/opcode_table.json (30_encoding.md R74,
R88), twelve commands (six opcodes in two formats) and one default row per format.
-/
namespace Sys2Proof

/-- The two message layouts of 30_encoding.md R71 to R73. -/
inductive Format where
  | A
  | B
deriving DecidableEq, Repr, Inhabited

/-- One instruction is one host message, without the trailing bytes that 30_encoding.md R77 has ignored. -/
inductive Instr where
  /-- SETCOLOR.B (40_command_decoder.md R91) -/
  | setcolorB (r g b : Byte)
  /-- SETCOLOR.A (R91) -/
  | setcolorA (r g b : Byte)
  /-- OFF.B (R92) -/
  | offB
  /-- OFF.A (R92) -/
  | offA
  /-- SETMODE.B (R93) -/
  | setmodeB (m : Byte)
  /-- SETMODE.A (R93) -/
  | setmodeA (m : Byte)
  /-- SETMUSIC.B (R94) -/
  | setmusicB (v : Byte)
  /-- SETMUSIC.A (R94) -/
  | setmusicA (v : Byte)
  /-- SETBRIGHT.B (R95) -/
  | setbrightB (v : Byte)
  /-- SETBRIGHT.A (R95) -/
  | setbrightA (v : Byte)
  /-- PING.B (R96) -/
  | pingB
  /-- PING.A (R96) -/
  | pingA
  /-- UNKNOWN.B: an opcode that is none of the six (R97) -/
  | unknownB (op : Byte)
  /-- UNKNOWN.A (R97) -/
  | unknownA (op : Byte)
deriving DecidableEq, Repr

end Sys2Proof
end

