-- ==== Sys2Proof/WellFormed.lean ====
section
/-!
DEFINITION. Which terms of `Instr` stand for a message: an UNKNOWN row carries an opcode that is none of the six defined ones
(30_encoding.md R80); every operand value of the twelve commands is legal (R82, R83).
-/
namespace Sys2Proof

/-- The six defined opcodes (30_encoding.md R74). -/
def definedOpcodes : List Byte := [0x03, 0x04, 0x05, 0x06, 0x07, 0xAA]

/-- Whether an opcode is one of the six (30_encoding.md R74, R80). -/
def isDefinedOpcode (op : Byte) : Bool := definedOpcodes.contains op

/-- The well-formed instructions. -/
def Instr.wf : Instr → Bool
  | .setcolorB _ _ _ => true
  | .setcolorA _ _ _ => true
  | .offB => true
  | .offA => true
  | .setmodeB _ => true
  | .setmodeA _ => true
  | .setmusicB _ => true
  | .setmusicA _ => true
  | .setbrightB _ => true
  | .setbrightA _ => true
  | .pingB => true
  | .pingA => true
  | .unknownB op => !isDefinedOpcode op
  | .unknownA op => !isDefinedOpcode op

end Sys2Proof
end

