-- ==== Sys2Proof/Decode.lean ====
section
/-!
DEFINITION. The decoder (30_encoding.md R71 to R81, 40_command_decoder.md R90), total on any bytes and rejecting by name; the
encoder after it (R72 to R74, R76, R87); the opcode table as rows and the selection of a row (R88); and a table word as a
message.
-/
namespace Sys2Proof

/-- Why a message is malformed (60_exceptions.md R171): it is empty, or its payload is shorter than the opcode's minimum. -/
inductive Malformed where
  | empty
  | short (f : Format) (op : Byte)
deriving DecidableEq, Repr

/-- Framing (30_encoding.md R71): the format, the opcode and the payload of a message; none for the empty one. -/
def resolveFraming : List Byte → Option (Format × Byte × List Byte)
  | [] => none
  | [op] => some (.B, op, [])
  | b0 :: b1 :: rest => if b0 = 0 then some (.A, b1, rest) else some (.B, b0, b1 :: rest)

/-- The minimum payload of a defined opcode (30_encoding.md R74, R75); an unknown one has none. -/
def minPayload (op : Byte) : Nat :=
  if op = 0x03 then 3
  else if op = 0x05 ∨ op = 0x06 ∨ op = 0x07 then 1
  else 0

/-- The constructor of the resolved format, Format A's first. -/
def Format.pick (f : Format) (inA inB : Instr) : Instr :=
  match f with
  | .A => inA
  | .B => inB

/-- The case on the opcode of 40_command_decoder.md R90, with the length test of 30_encoding.md R75 and the operands of R76. -/
def decodeBody (f : Format) (op : Byte) (payload : List Byte) : Except Malformed Instr :=
  if op = 0x03 then
    match payload with
    | r :: g :: b :: _ => .ok (f.pick (.setcolorA r g b) (.setcolorB r g b))
    | _ => .error (.short f op)
  else if op = 0x04 then .ok (f.pick .offA .offB)
  else if op = 0x05 then
    match payload with
    | m :: _ => .ok (f.pick (.setmodeA m) (.setmodeB m))
    | [] => .error (.short f op)
  else if op = 0x06 then
    match payload with
    | v :: _ => .ok (f.pick (.setmusicA v) (.setmusicB v))
    | [] => .error (.short f op)
  else if op = 0x07 then
    match payload with
    | v :: _ => .ok (f.pick (.setbrightA v) (.setbrightB v))
    | [] => .error (.short f op)
  else if op = 0xAA then .ok (f.pick .pingA .pingB)
  else .ok (f.pick (.unknownA op) (.unknownB op))

/-- The decoder: the instruction of a message, or why it is malformed (40_command_decoder.md R90). The decision rests on the
message's bytes alone. -/
def decode (bytes : List Byte) : Except Malformed Instr :=
  match resolveFraming bytes with
  | none => .error .empty
  | some (f, op, payload) => decodeBody f op payload

namespace Instr

/-- The layout a row is written in. -/
def format : Instr → Format
  | .setcolorB _ _ _ => .B
  | .setcolorA _ _ _ => .A
  | .offB => .B
  | .offA => .A
  | .setmodeB _ => .B
  | .setmodeA _ => .A
  | .setmusicB _ => .B
  | .setmusicA _ => .A
  | .setbrightB _ => .B
  | .setbrightA _ => .A
  | .pingB => .B
  | .pingA => .A
  | .unknownB _ => .B
  | .unknownA _ => .A

/-- The opcode of 30_encoding.md R74; an unknown row's is its operand. -/
def opcode : Instr → Byte
  | .setcolorB _ _ _ => 0x03
  | .setcolorA _ _ _ => 0x03
  | .offB => 0x04
  | .offA => 0x04
  | .setmodeB _ => 0x05
  | .setmodeA _ => 0x05
  | .setmusicB _ => 0x06
  | .setmusicA _ => 0x06
  | .setbrightB _ => 0x07
  | .setbrightA _ => 0x07
  | .pingB => 0xAA
  | .pingA => 0xAA
  | .unknownB op => op
  | .unknownA op => op

/-- The operand bytes in payload order (30_encoding.md R76). -/
def operands : Instr → List Byte
  | .setcolorB r g b => [r, g, b]
  | .setcolorA r g b => [r, g, b]
  | .offB => []
  | .offA => []
  | .setmodeB m => [m]
  | .setmodeA m => [m]
  | .setmusicB v => [v]
  | .setmusicA v => [v]
  | .setbrightB v => [v]
  | .setbrightA v => [v]
  | .pingB => []
  | .pingA => []
  | .unknownB _ => []
  | .unknownA _ => []

/-- The row's mnemonic in spec/opcode_table.json. -/
def mnemonic : Instr → String
  | .setcolorB _ _ _ => "SETCOLOR.B"
  | .setcolorA _ _ _ => "SETCOLOR.A"
  | .offB => "OFF.B"
  | .offA => "OFF.A"
  | .setmodeB _ => "SETMODE.B"
  | .setmodeA _ => "SETMODE.A"
  | .setmusicB _ => "SETMUSIC.B"
  | .setmusicA _ => "SETMUSIC.A"
  | .setbrightB _ => "SETBRIGHT.B"
  | .setbrightA _ => "SETBRIGHT.A"
  | .pingB => "PING.B"
  | .pingA => "PING.A"
  | .unknownB _ => "UNKNOWN.B"
  | .unknownA _ => "UNKNOWN.A"

end Instr

/-- The prefix of a layout: `prefix(A) = [0x00], prefix(B) = []` (30_encoding.md R87). -/
def Format.leadBytes : Format → List Byte
  | .A => [0x00]
  | .B => []

/-- The encoder: "the shortest valid message" of an instruction (30_encoding.md R72, R73, R87). -/
def encode (i : Instr) : List Byte := i.format.leadBytes ++ i.opcode :: i.operands

/-- Bytes read as one number, the first byte the most significant (30_encoding.md R88). -/
def bigEndian (bytes : List Byte) : Nat :=
  bytes.foldl (fun acc byte => acc * 256 + byte.toNat) 0

/-- A row of spec/opcode_table.json, with the fields that 30_encoding.md R88 has a message select it by. -/
structure Row where
  mnemonic : String
  format : Format
  matchBits : Nat
  mask : Nat
  matchBytes : Nat
  minLen : Nat
  isDefault : Bool
deriving DecidableEq, Repr

/-- The rows of Format A, in the table's order. -/
def rowsA : List Row :=
  [ ⟨"SETCOLOR.A", .A, 0x0003, 0xFFFF, 2, 5, false⟩,
    ⟨"OFF.A", .A, 0x0004, 0xFFFF, 2, 2, false⟩,
    ⟨"SETMODE.A", .A, 0x0005, 0xFFFF, 2, 3, false⟩,
    ⟨"SETMUSIC.A", .A, 0x0006, 0xFFFF, 2, 3, false⟩,
    ⟨"SETBRIGHT.A", .A, 0x0007, 0xFFFF, 2, 3, false⟩,
    ⟨"PING.A", .A, 0x00AA, 0xFFFF, 2, 2, false⟩,
    ⟨"UNKNOWN.A", .A, 0x0000, 0xFF00, 2, 2, true⟩ ]

/-- The rows of Format B, in the table's order. -/
def rowsB : List Row :=
  [ ⟨"SETCOLOR.B", .B, 0x03, 0xFF, 1, 4, false⟩,
    ⟨"OFF.B", .B, 0x04, 0xFF, 1, 1, false⟩,
    ⟨"SETMODE.B", .B, 0x05, 0xFF, 1, 2, false⟩,
    ⟨"SETMUSIC.B", .B, 0x06, 0xFF, 1, 2, false⟩,
    ⟨"SETBRIGHT.B", .B, 0x07, 0xFF, 1, 2, false⟩,
    ⟨"PING.B", .B, 0xAA, 0xFF, 1, 1, false⟩,
    ⟨"UNKNOWN.B", .B, 0x00, 0x00, 1, 1, true⟩ ]

/-- "(first match_bytes bytes) AND mask == match" (30_encoding.md R88). -/
def Row.matchesFirst (row : Row) (bytes : List Byte) : Bool :=
  (bigEndian (bytes.take row.matchBytes) &&& row.mask) == row.matchBits

/-- The rows of the resolved format, "resolved first, by rule R71" (30_encoding.md R88). -/
def rowsFor : Format → List Row
  | .A => rowsA
  | .B => rowsB

/-- The row a message selects (30_encoding.md R88): the non-default row its first bytes match, if it is long enough; the
default row where they match none; no row for the empty and the short message. -/
def selectRow (bytes : List Byte) : Option Row :=
  match resolveFraming bytes with
  | none => none
  | some (f, _, _) =>
    match (rowsFor f).find? (fun row => !row.isDefault && row.matchesFirst bytes) with
    | some row => if row.minLen ≤ bytes.length then some row else none
    | none => (rowsFor f).find? (fun row => row.isDefault && row.matchesFirst bytes)

/-- The low `n` bytes of a word, the most significant first, as 30_encoding.md R88 numbers a row's match (log 11). -/
def wordBytes : Nat → Nat → List Byte
  | 0, _ => []
  | n + 1, w => BitVec.ofNat 8 (w >>> (8 * n)) :: wordBytes n w

/-- A table word as the message it stands for: its bytes, then zero operands up to the opcode's minimum (log 11). -/
def tableMessage (nbits w : Nat) : List Byte :=
  let bytes := wordBytes (nbits / 8) w
  match resolveFraming bytes with
  | none => bytes
  | some (_, op, payload) => bytes ++ List.replicate (minPayload op - payload.length) 0

/-- The instruction the decoder reads from a word of spec/opcode_table.json. -/
def decodeTableWord (nbits w : Nat) : Option Instr :=
  match decode (tableMessage nbits w) with
  | .ok i => some i
  | .error _ => none

end Sys2Proof
end

