-- ==== Sys2Proof/Config.lean ====
section
/-!
DEFINITION. The implementation parameters (00_scope.md R7, R8), the named properties of the sine function (R14), and the
free values of the model. Every parameter of the device is an opaque constant held inside its domain (log 6), so that a
claim about the device is a claim for every admissible value.
-/
namespace Sys2Proof

/-- `CHANNEL_ORDER`: "a permutation of (R, G, B)" (00_scope.md R7, 20_memory.md R54). -/
inductive ChannelOrder where
  | rgb
  | rbg
  | grb
  | gbr
  | brg
  | bgr
deriving DecidableEq, Repr, Inhabited

/-- `BIT_ORDER` (00_scope.md R7, 20_memory.md R55). -/
inductive BitOrder where
  | msbFirst
  | lsbFirst
deriving DecidableEq, Repr, Inhabited

/-- The implementation parameters, under the names of the table of 00_scope.md R7. `CHANNEL_BITS` is fixed at 8 there and
is the width of `Byte`; `ReservedModeRender` has no admissible value, the model refuses (41_effect_engine.md R119). -/
structure Params where
  /-- strip length in pixels -/
  N : Nat
  /-- longest message the transport delivers -/
  MSG_MAX : Nat
  /-- length of the Ping reply in bytes -/
  REPLY_LEN : Nat
  /-- the 4-byte acknowledgement tag -/
  ACK_TAG : Vector Byte 4
  /-- angle units per degree -/
  ANGLE_Q : Nat
  HUE_STEP : Nat
  HUE_INIT : Nat
  BREATH_STEP : Nat
  BREATH_INIT : Nat
  CHASE_POS_INIT : Nat
  PULSE_STEP : Nat
  PULSE_INIT : Nat
  CYCLE_INTERVAL_MS : Nat
  CYCLE_HUE_STEP : Nat
  CYC_HUE_INIT : Nat
  /-- no rule of the core reads it (60_exceptions.md R185): it is the environment's -/
  TICK_PERIOD_MS : Nat
  TIME_BITS : Nat
  CHANNEL_ORDER : ChannelOrder
  BIT_ORDER : BitOrder
  /-- minimum idle time after a frame, in a time unit the spec does not name -/
  T_LATCH : Nat
  /-- the sine configuration function on angle units (00_scope.md R14) -/
  Sin : Nat → Rat
  /-- the frames of the connection-established sequence, as scaled pixels (60_exceptions.md R180) -/
  CONNECT_FRAMES : List (List Pixel)
  /-- the free value of pixel `i` of FB after the `k`-th `Connect` (60_exceptions.md R180, U3) -/
  freePixel : Nat → Nat → Pixel
  /-- the free value of what the strip shows before the core's first frame (70_reset_and_hazards.md R203(c), U7) -/
  stripAtPowerUp : List Bool

namespace Params

/-- `TURN = 360 * ANGLE_Q`, one full turn in angle units (00_scope.md R7). -/
def TURN (p : Params) : Nat := 360 * p.ANGLE_Q

/-- `SECTOR = 60 * ANGLE_Q` (00_scope.md R8). -/
def SECTOR (p : Params) : Nat := 60 * p.ANGLE_Q

/-- SIN_RANGE of 00_scope.md R14. -/
def SinRange (p : Params) : Prop := ∀ a, a < p.TURN → -1 ≤ p.Sin a ∧ p.Sin a ≤ 1

/-- SIN_0 of 00_scope.md R14. -/
def Sin0 (p : Params) : Prop := p.Sin 0 = 0

/-- SIN_90 of 00_scope.md R14. -/
def Sin90 (p : Params) : Prop := p.Sin (90 * p.ANGLE_Q) = 1

/-- SIN_180 of 00_scope.md R14. -/
def Sin180 (p : Params) : Prop := p.Sin (180 * p.ANGLE_Q) = 0

/-- SIN_270 of 00_scope.md R14. -/
def Sin270 (p : Params) : Prop := p.Sin (270 * p.ANGLE_Q) = -1

/-- SIN_30 of 00_scope.md R14: the four angles where the sine is one half or minus one half. -/
def Sin30 (p : Params) : Prop :=
  p.Sin (30 * p.ANGLE_Q) = 1 / 2 ∧ p.Sin (150 * p.ANGLE_Q) = 1 / 2 ∧
    p.Sin (210 * p.ANGLE_Q) = -(1 / 2) ∧ p.Sin (330 * p.ANGLE_Q) = -(1 / 2)

/-- The domains of 00_scope.md R7 and the constraints of R8 that the rules rely on, with SIN_RANGE of R14. -/
structure Valid (p : Params) : Prop where
  N_pos : 1 ≤ p.N
  MSG_MAX_ge : 5 ≤ p.MSG_MAX
  REPLY_LEN_ge : 4 ≤ p.REPLY_LEN
  ANGLE_Q_pos : 1 ≤ p.ANGLE_Q
  HUE_STEP_lt : p.HUE_STEP < p.TURN
  HUE_INIT_lt : p.HUE_INIT < p.TURN
  BREATH_STEP_lt : p.BREATH_STEP < p.TURN
  BREATH_INIT_lt : p.BREATH_INIT < p.TURN
  CHASE_POS_INIT_lt : p.CHASE_POS_INIT < p.N
  PULSE_STEP_lt : p.PULSE_STEP < p.TURN
  PULSE_INIT_lt : p.PULSE_INIT < p.TURN
  CYCLE_HUE_STEP_lt : p.CYCLE_HUE_STEP < p.TURN
  CYC_HUE_INIT_lt : p.CYC_HUE_INIT < p.TURN
  TICK_PERIOD_MS_pos : 1 ≤ p.TICK_PERIOD_MS
  TIME_BITS_pos : 1 ≤ p.TIME_BITS
  T_LATCH_pos : 1 ≤ p.T_LATCH
  sinRange : p.SinRange
  connectFrames : ∀ frame ∈ p.CONNECT_FRAMES, frame.length = p.N

end Params

/-! The raw constants behind the device's parameters. None has a body: nothing can evaluate one. `device` places each in
its domain so that every admissible value is one of its values. -/

/-- N less 1. -/
opaque Config.stripLengthLessOne : Nat
/-- MSG_MAX less 5. -/
opaque Config.messageMaxLessFive : Nat
/-- REPLY_LEN less 4. -/
opaque Config.replyLengthLessFour : Nat
opaque Config.ackTag : Vector Byte 4
/-- ANGLE_Q less 1. -/
opaque Config.angleUnitsLessOne : Nat
opaque Config.hueStep : Nat
opaque Config.hueInit : Nat
opaque Config.breathStep : Nat
opaque Config.breathInit : Nat
opaque Config.chasePosInit : Nat
opaque Config.pulseStep : Nat
opaque Config.pulseInit : Nat
opaque Config.cycleIntervalMs : Nat
opaque Config.cycleHueStep : Nat
opaque Config.cycHueInit : Nat
/-- TICK_PERIOD_MS less 1. -/
opaque Config.tickPeriodLessOne : Nat
/-- TIME_BITS less 1. -/
opaque Config.timeBitsLessOne : Nat
opaque Config.channelOrder : ChannelOrder
opaque Config.bitOrder : BitOrder
/-- T_LATCH less 1. -/
opaque Config.latchLessOne : Nat
opaque Config.sine : Nat → Rat
opaque Config.connectFrames : List (List Pixel)
opaque Config.freePixel : Nat → Nat → Pixel
opaque Config.stripAtPowerUp : List Bool

/-- The device the machine models: every parameter an unknown value of its domain (00_scope.md R7, R8; log 6, 15, 16). -/
def Config.device : Params :=
  let n := Config.stripLengthLessOne + 1
  let q := Config.angleUnitsLessOne + 1
  let turn := 360 * q
  { N := n
    MSG_MAX := Config.messageMaxLessFive + 5
    REPLY_LEN := Config.replyLengthLessFour + 4
    ACK_TAG := Config.ackTag
    ANGLE_Q := q
    HUE_STEP := Config.hueStep % turn
    HUE_INIT := Config.hueInit % turn
    BREATH_STEP := Config.breathStep % turn
    BREATH_INIT := Config.breathInit % turn
    CHASE_POS_INIT := Config.chasePosInit % n
    PULSE_STEP := Config.pulseStep % turn
    PULSE_INIT := Config.pulseInit % turn
    CYCLE_INTERVAL_MS := Config.cycleIntervalMs
    CYCLE_HUE_STEP := Config.cycleHueStep % turn
    CYC_HUE_INIT := Config.cycHueInit % turn
    TICK_PERIOD_MS := Config.tickPeriodLessOne + 1
    TIME_BITS := Config.timeBitsLessOne + 1
    CHANNEL_ORDER := Config.channelOrder
    BIT_ORDER := Config.bitOrder
    T_LATCH := Config.latchLessOne + 1
    Sin := fun a => max (-1) (min 1 (Config.sine a))
    CONNECT_FRAMES := Config.connectFrames.map fun frame => (List.range n).map fun i => frame.getD i .black
    freePixel := Config.freePixel
    stripAtPowerUp := Config.stripAtPowerUp }

end Sys2Proof
end

