-- ==== Sys2Proof/Machine/State.lean ====
section
/-!
DEFINITION. The state of the core (10_state.md R20, R39, R40), the events the environment presents (00_scope.md R12), the
STATUS record (60_exceptions.md R173), the reasons a step can stop, and the state after reset (10_state.md R42,
70_reset_and_hazards.md R200).
-/
namespace Sys2Proof.Machine

/-- "The core reacts to exactly five kinds of event" (00_scope.md R12). `now` counts milliseconds; the core sees its low
TIME_BITS bits (R13, log 2). -/
inductive Event where
  | reset
  | msg (bytes : List Byte) (now : Nat)
  | tick (now : Nat)
  | connect (now : Nat)
  | disconnect (now : Nat)
deriving DecidableEq, Repr

/-- The outcome of a decoded message (60_exceptions.md R173). -/
inductive MsgOutcome where
  | accepted
  | malformedMessage
  | unknownOpcode
deriving DecidableEq, Repr

/-- The STATUS record, "the triple `(outcome, format, opcode)`"; `none` is the format or opcode "none" (60_exceptions.md R173). -/
structure StatusRecord where
  outcome : MsgOutcome
  format : Option Format
  opcode : Option Byte
deriving DecidableEq, Repr

/-- A frame on BUS (42_frame_renderer.md R142) with the idle time the serializer kept on the bus before it, the latch gap of
the frame before (R144, log 9). -/
structure BusFrame where
  idleBefore : Nat
  bits : List Bool
deriving DecidableEq, Repr

/-- The reasons a step is stuck. -/
inductive Fault where
  /-- Raised by the step for a message longer than MSG_MAX, for which "the model has no step" (30_encoding.md R70,
  93_implementation_defined.md U6). Safe: the environment never presents one. -/
  | messageTooLong
deriving DecidableEq, Repr

/-- The reasons the model gives a step no meaning. -/
inductive Refusal where
  /-- Raised by an arm of `exec` that has no meaning yet. Safe. -/
  | notModelled (mnemonic : String)
  /-- Raised by a `Tick` while MODE holds 7 to 255: "A model must treat a `Tick` with MODE ≥ 7 as refused"
  (41_effect_engine.md R119, U1). Safe. -/
  | tickInReservedMode (mode : Byte)
  /-- Raised by an event other than `Reset` before the first `Reset`: "`refuse`: state is undetermined"
  (70_reset_and_hazards.md R201, R203(a), U10). Safe. -/
  | eventBeforeReset
deriving DecidableEq, Repr

/-- The state of the core, plain data. Under each field stands the rule that names it. -/
structure State where
  /-- MODE, 10_state.md R21 -/
  mode : BitVec 8
  /-- BASE, R22 -/
  base : Pixel
  /-- MUSIC, R23 -/
  music : BitVec 8
  /-- BRIGHT, R24 -/
  bright : BitVec 7
  /-- CONN, R25 -/
  conn : Bool
  /-- HUE, R27 -/
  hue : Nat
  /-- BREATH, R28 -/
  breath : Nat
  /-- CHASE_POS, R29 -/
  chasePos : Nat
  /-- PULSE, R30 -/
  pulse : Nat
  /-- CYC_LAST, R31 -/
  cycLast : Nat
  /-- CYC_HUE, R32 -/
  cycHue : Nat
  /-- FB, R35, FB[0] first -/
  fb : List Pixel
  /-- BUS, R39, the oldest frame first -/
  bus : List BusFrame
  /-- REPLY, R39, the oldest first -/
  reply : List (List Byte)
  /-- STATUS, R39, the oldest first -/
  status : List StatusRecord
  /-- the latch window, R40(a): the idle time still owed before the next frame; 0 is "no latch gap pending" -/
  latch : Nat
  /-- the strip's latched image, R40(b), as the bits of the frame it shows -/
  strip : List Bool
  /-- the model's own: the events presented and not yet taken, the next one first (log 1) -/
  inputs : List Event
  /-- the model's own: the time input while the current event is processed (00_scope.md R13, log 2) -/
  now : Nat
  /-- the model's own: whether a `Reset` has been applied (70_reset_and_hazards.md R201, log 4) -/
  wasReset : Bool
  /-- the model's own: how many free frame buffers have been drawn (60_exceptions.md R180, log 8) -/
  draws : Nat
deriving DecidableEq, Repr

/-- The state right after a `Reset` of a core with the given parameters (10_state.md R42, 70_reset_and_hazards.md R200). -/
def State.initial (p : Params) : State where
  mode := 0
  base := .black
  music := 0
  bright := 100
  conn := false
  hue := p.HUE_INIT
  breath := p.BREATH_INIT
  chasePos := p.CHASE_POS_INIT
  pulse := p.PULSE_INIT
  cycLast := 0
  cycHue := p.CYC_HUE_INIT
  fb := List.replicate p.N .black
  bus := []
  reply := []
  status := []
  latch := 0
  strip := p.stripAtPowerUp
  inputs := []
  now := 0
  wasReset := true
  draws := 0

/-- The machine right after reset. -/
def State.reset : State := State.initial Config.device

end Sys2Proof.Machine
end

