-- ==== Sys2Proof/Machine/Ops.lean ====
section
/-!
DEFINITION. The named operations over registers, the frame buffer and the output histories (00_scope.md R11, 20_memory.md
R50, R51), the mode write with its phase reset (10_state.md R34), taking a rejection (60_exceptions.md R175), and the reset.
-/
namespace Sys2Proof.Machine

/-! Register writes, `REG <- v` (00_scope.md R11). Each register has one home and is written here only. -/

def State.setMode (s : State) (m : BitVec 8) : State := { s with mode := m }
def State.setBase (s : State) (px : Pixel) : State := { s with base := px }
def State.setMusic (s : State) (v : BitVec 8) : State := { s with music := v }
def State.setBright (s : State) (v : BitVec 7) : State := { s with bright := v }
def State.setConn (s : State) (c : Bool) : State := { s with conn := c }
def State.setHue (s : State) (a : Nat) : State := { s with hue := a }
def State.setBreath (s : State) (a : Nat) : State := { s with breath := a }
def State.setChasePos (s : State) (i : Nat) : State := { s with chasePos := i }
def State.setPulse (s : State) (a : Nat) : State := { s with pulse := a }
def State.setCycLast (s : State) (t : Nat) : State := { s with cycLast := t }
def State.setCycHue (s : State) (a : Nat) : State := { s with cycHue := a }
def State.setFb (s : State) (fb : List Pixel) : State := { s with fb := fb }

/-! The output histories, appended to and never read (10_state.md R39), and the bus side (R40). -/

/-- One frame goes out after the idle time owed; the gap of `gap` starts, and the strip shows the frame. -/
def State.pushFrame (s : State) (bits : List Bool) (gap : Nat) : State :=
  { s with bus := s.bus ++ [⟨s.latch, bits⟩], latch := gap, strip := bits }
/-- `emit REPLY(msg)` -/
def State.pushReply (s : State) (msg : List Byte) : State := { s with reply := s.reply ++ [msg] }
/-- `emit STATUS(rec)` -/
def State.pushStatus (s : State) (rec : StatusRecord) : State := { s with status := s.status ++ [rec] }

/-! The model's own fields. -/

/-- The next event is taken: `rest` is left, and the time input carries `now`. -/
def State.takeInput (s : State) (rest : List Event) (now : Nat) : State := { s with inputs := rest, now := now }
/-- One free value has been drawn. -/
def State.countDraw (s : State) : State := { s with draws := s.draws + 1 }

/-- The canonical form of the one memory the core holds, the frame buffer: N cells, never resized (10_state.md R35, R36 I-a). -/
abbrev Memory.wf (p : Params) (fb : List Pixel) : Prop := fb.length = p.N

/-- `FB[i]` read; no rule computes an index outside [0, N) (20_memory.md R51). -/
def State.pixel (s : State) (i : Nat) : Option Pixel := s.fb[i]?

/-- Every pixel `0 .. N-1` written from its index (41_effect_engine.md R121). -/
def State.paint (p : Params) (f : Nat → Pixel) (s : State) : State := s.setFb ((List.range p.N).map f)

/-- `FB[*] <- px` (00_scope.md R11). -/
def State.fill (p : Params) (px : Pixel) (s : State) : State := s.setFb (List.replicate p.N px)

/-- The `TIME_BITS`-bit value of the time input (00_scope.md R13). -/
def timeInput (p : Params) (s : State) : Nat := s.now % 2 ^ p.TIME_BITS

/-- Elapsed time, `(now - t0) mod 2^TIME_BITS` (00_scope.md R13). -/
def elapsedSince (p : Params) (t0 : Nat) (s : State) : Nat :=
  (((timeInput p s : Int) - (t0 : Int)) % (2 ^ p.TIME_BITS : Nat)).toNat

/-- `ResetPhase(m, now)` (10_state.md R34). -/
def resetPhase (p : Params) (m : BitVec 8) (s : State) : State :=
  match m.toNat with
  | 2 => s.setHue p.HUE_INIT
  | 3 => s.setBreath p.BREATH_INIT
  | 4 => (s.setChasePos p.CHASE_POS_INIT).setPulse p.PULSE_INIT
  | 6 => (s.setCycLast (timeInput p s)).setCycHue p.CYC_HUE_INIT
  | _ => s

/-- `SetModeTo(m, now)` (10_state.md R34): a write of the value MODE already holds changes nothing. -/
def setModeTo (p : Params) (m : BitVec 8) (s : State) : State :=
  if m = s.mode then s else resetPhase p m (s.setMode m)

/-- Taking an exception: `raise X(f, op)` appends the rejection's STATUS record and does nothing else, "Nothing is saved, no
mode or mask changes, control goes nowhere: there is no handler" (60_exceptions.md R175). The return from it is the next event,
"processed as if the rejected message had not been sent" (R176): there is no operation for it. -/
def raiseRejection (outcome : MsgOutcome) (f : Option Format) (op : Option Byte) (s : State) : State :=
  s.pushStatus ⟨outcome, f, op⟩

/-- `Reset` (70_reset_and_hazards.md R200): all state of the core takes its reset value. What is outside the core stays: the
events still to come, the time input, the strip's image (R203(c)) and the count of free values drawn. -/
def applyReset (p : Params) (s : State) : State :=
  { State.initial p with inputs := s.inputs, now := s.now, strip := s.strip, draws := s.draws }

end Sys2Proof.Machine
end

