-- ==== Sys2Proof/Machine/Flags.lean ====
section
/-!
DEFINITION. What this hardware has for flags (10_state.md R38): the connection flag CONN and the STATUS record of each message.
There are no arithmetic condition codes.
-/
namespace Sys2Proof.Machine

/-- The numeric code of an outcome (60_exceptions.md R173). -/
def MsgOutcome.code : MsgOutcome → Nat
  | .accepted => 0
  | .malformedMessage => 1
  | .unknownOpcode => 2

/-- The last line of the decode procedure, `emit STATUS(outcome = Accepted, format = f, opcode = op)` (40_command_decoder.md R90). -/
def accept (f : Format) (op : Byte) (s : State) : State := s.pushStatus ⟨.accepted, some f, some op⟩

/-- `Connect` sets the connection flag (10_state.md R25). -/
def raiseConnected (s : State) : State := s.setConn true

/-- `Disconnect` clears the connection flag (10_state.md R25). -/
def clearConnected (s : State) : State := s.setConn false

end Sys2Proof.Machine
end

