-- ==== Sys2Proof/Machine/Operands.lean ====
section
/-!
DEFINITION. How operands and exact numbers become register and channel values: the brightness clamp (30_encoding.md R76) and
the one rounding of the core (00_scope.md R15). Taking the operand bytes from a message is the decoder's (Decode.lean).
-/
namespace Sys2Proof.Machine

/-- SETBRIGHT's operand, `min(payload[0], 100)` in seven bits (30_encoding.md R76, 10_state.md R24). -/
def clampBrightness (v : Byte) : BitVec 7 := BitVec.ofNat 7 (min v.toNat 100)

/-- A whole number as a channel value. -/
def channelOfNat (n : Nat) : Byte := BitVec.ofNat 8 n

/-- A rational as a channel value: `floor`, the operands being non-negative (00_scope.md R15). -/
def channelOfRat (q : Rat) : Byte := channelOfNat q.floor.toNat

/-- `floor(px.c * factor)` for each channel, the product formed exactly and floored once (41_effect_engine.md R115, R116(d)). -/
def dimPixel (factor : Rat) (px : Pixel) : Pixel :=
  px.mapChannels fun c => channelOfRat ((c.toNat : Rat) * factor)

end Sys2Proof.Machine
end

