-- ==== Sys2Proof/Machine/FrameRenderer.lean ====
section
/-!
DEFINITION. The Frame Renderer (42_frame_renderer.md): the brightness scaler, the serializer, the latch gap, `EmitFrame`, and
the immediate render that calls it (40_command_decoder.md R98).
-/
namespace Sys2Proof

/-- The channels in the order they go to the bus (42_frame_renderer.md R142, `(c0, c1, c2) = CHANNEL_ORDER`). -/
def ChannelOrder.channels : ChannelOrder → List Channel
  | .rgb => [.r, .g, .b]
  | .rbg => [.r, .b, .g]
  | .grb => [.g, .r, .b]
  | .gbr => [.g, .b, .r]
  | .brg => [.b, .r, .g]
  | .bgr => [.b, .g, .r]

end Sys2Proof

namespace Sys2Proof.Machine

/-- `Scale(px, b)`: `(channel * B) div 100` for each channel (42_frame_renderer.md R141). -/
def scale (px : Pixel) (bright : BitVec 7) : Pixel :=
  px.mapChannels fun c => channelOfNat (c.toNat * bright.toNat / 100)

/-- `Bits(v)`: the eight bits of a channel in BIT_ORDER (42_frame_renderer.md R142). -/
def channelBits (order : BitOrder) (v : Byte) : List Bool :=
  match order with
  | .msbFirst => [7, 6, 5, 4, 3, 2, 1, 0].map v.getLsbD
  | .lsbFirst => [0, 1, 2, 3, 4, 5, 6, 7].map v.getLsbD

/-- `Serialize(q)`: the channels of a scaled pixel in CHANNEL_ORDER (42_frame_renderer.md R142). -/
def serialize (p : Params) (q : Pixel) : List Bool :=
  p.CHANNEL_ORDER.channels.flatMap fun c => channelBits p.BIT_ORDER (q.channel c)

/-- The bits of a frame from its scaled pixels in index order (42_frame_renderer.md R142, R143). -/
def frameBits (p : Params) (scaled : List Pixel) : List Bool := scaled.flatMap (serialize p)

/-- `emit BUS(frame)` between waiting for the gap of the previous frame and starting the gap of this one
(42_frame_renderer.md R140, R144). -/
def sendFrame (p : Params) (scaled : List Pixel) (s : State) : State := s.pushFrame (frameBits p scaled) p.T_LATCH

/-- `EmitFrame()`: FB scaled by BRIGHT, sampled once, goes to the bus; no register and no pixel is written
(42_frame_renderer.md R140). -/
def emitFrame (p : Params) (s : State) : State := sendFrame p (s.fb.map fun px => scale px s.bright) s

/-- `ImmediateRender(px)`: `FB[*] <- px ; EmitFrame()` (40_command_decoder.md R98). -/
def immediateRender (p : Params) (px : Pixel) (s : State) : State := emitFrame p (s.fill p px)

end Sys2Proof.Machine
end

