-- ==== Sys2Proof/Machine/CommandDecoder.lean ====
section
/-!
DEFINITION. What each command does (40_command_decoder.md R91 to R97): the effect shared by the two formats, and one meaning
per row of the opcode table. An accepted command appends its STATUS record last (R90).
-/
namespace Sys2Proof.Machine

/-- SETCOLOR's mode write, `if MODE == 0 then MODE <- 1`: Off to Static, every other mode kept (40_command_decoder.md R91). -/
def modeWhenLit (mode : BitVec 8) : BitVec 8 := if mode = 0 then 1 else mode

/-- SETCOLOR: BASE takes the colour, Off becomes Static, BASE is shown at once (40_command_decoder.md R91). -/
def setColor (p : Params) (px : Pixel) (s : State) : State :=
  let t := (s.setBase px).setMode (modeWhenLit s.mode)
  immediateRender p t.base t

/-- OFF (40_command_decoder.md R92). -/
def turnOff (p : Params) (s : State) : State := immediateRender p .black (setModeTo p 0 s)

/-- SETBRIGHT (40_command_decoder.md R95). -/
def setBrightness (v : Byte) (s : State) : State := s.setBright (clampBrightness v)

/-- The PING reply, `ACK_TAG[0..3] ++ 0x00 * (REPLY_LEN - 4)` (30_encoding.md R85). -/
def pingReply (p : Params) : List Byte := p.ACK_TAG.toList ++ List.replicate (p.REPLY_LEN - 4) 0

/-- PING (40_command_decoder.md R96). -/
def ping (p : Params) (s : State) : State := s.pushReply (pingReply p)

/-- UNKNOWN: `raise UnknownOpcode(f, op)` (40_command_decoder.md R97). -/
def rejectUnknown (f : Format) (op : Byte) (s : State) : State := raiseRejection .unknownOpcode (some f) (some op) s

/-- SETCOLOR.B (40_command_decoder.md R91). -/
def execSetcolorB (r g b : Byte) (s : State) : Host.Outcome State Fault Refusal :=
  .next (accept .B 0x03 (setColor Config.device ⟨r, g, b⟩ s))

/-- SETCOLOR.A (40_command_decoder.md R91). -/
def execSetcolorA (r g b : Byte) (s : State) : Host.Outcome State Fault Refusal :=
  .next (accept .A 0x03 (setColor Config.device ⟨r, g, b⟩ s))

/-- OFF.B (40_command_decoder.md R92). -/
def execOffB (s : State) : Host.Outcome State Fault Refusal := .next (accept .B 0x04 (turnOff Config.device s))

/-- OFF.A (40_command_decoder.md R92). -/
def execOffA (s : State) : Host.Outcome State Fault Refusal := .next (accept .A 0x04 (turnOff Config.device s))

/-- SETMODE.B (40_command_decoder.md R93). -/
def execSetmodeB (m : Byte) (s : State) : Host.Outcome State Fault Refusal :=
  .next (accept .B 0x05 (setModeTo Config.device m s))

/-- SETMODE.A (40_command_decoder.md R93). -/
def execSetmodeA (m : Byte) (s : State) : Host.Outcome State Fault Refusal :=
  .next (accept .A 0x05 (setModeTo Config.device m s))

/-- SETMUSIC.B (40_command_decoder.md R94). -/
def execSetmusicB (v : Byte) (s : State) : Host.Outcome State Fault Refusal := .next (accept .B 0x06 (s.setMusic v))

/-- SETMUSIC.A (40_command_decoder.md R94). -/
def execSetmusicA (v : Byte) (s : State) : Host.Outcome State Fault Refusal := .next (accept .A 0x06 (s.setMusic v))

/-- SETBRIGHT.B (40_command_decoder.md R95). -/
def execSetbrightB (v : Byte) (s : State) : Host.Outcome State Fault Refusal := .next (accept .B 0x07 (setBrightness v s))

/-- SETBRIGHT.A (40_command_decoder.md R95). -/
def execSetbrightA (v : Byte) (s : State) : Host.Outcome State Fault Refusal := .next (accept .A 0x07 (setBrightness v s))

/-- PING.B (40_command_decoder.md R96). -/
def execPingB (s : State) : Host.Outcome State Fault Refusal := .next (accept .B 0xAA (ping Config.device s))

/-- PING.A (40_command_decoder.md R96). -/
def execPingA (s : State) : Host.Outcome State Fault Refusal := .next (accept .A 0xAA (ping Config.device s))

/-- UNKNOWN.B (40_command_decoder.md R97). -/
def execUnknownB (op : Byte) (s : State) : Host.Outcome State Fault Refusal := .next (rejectUnknown .B op s)

/-- UNKNOWN.A (40_command_decoder.md R97). -/
def execUnknownA (op : Byte) (s : State) : Host.Outcome State Fault Refusal := .next (rejectUnknown .A op s)

end Sys2Proof.Machine
end

