-- ==== Sys2Proof/Machine/Dispatch.lean ====
section
/-! DEFINITION. One arm per constructor of `Instr`, each a direct call of its meaning. -/

namespace Sys2Proof.Machine

def exec (i : Instr) (s : State) : Host.Outcome State Fault Refusal :=
  match i with
  | .setcolorB r g b => Sys2Proof.Machine.execSetcolorB r g b s
  | .setcolorA r g b => Sys2Proof.Machine.execSetcolorA r g b s
  | .offB => Sys2Proof.Machine.execOffB s
  | .offA => Sys2Proof.Machine.execOffA s
  | .setmodeB m => Sys2Proof.Machine.execSetmodeB m s
  | .setmodeA m => Sys2Proof.Machine.execSetmodeA m s
  | .setmusicB v => Sys2Proof.Machine.execSetmusicB v s
  | .setmusicA v => Sys2Proof.Machine.execSetmusicA v s
  | .setbrightB v => Sys2Proof.Machine.execSetbrightB v s
  | .setbrightA v => Sys2Proof.Machine.execSetbrightA v s
  | .pingB => Sys2Proof.Machine.execPingB s
  | .pingA => Sys2Proof.Machine.execPingA s
  | .unknownB op => Sys2Proof.Machine.execUnknownB op s
  | .unknownA op => Sys2Proof.Machine.execUnknownA op s

end Sys2Proof.Machine
end

