-- ==== Sys2Proof/Machine/ColorConversion.lean ====
section
/-!
DEFINITION. Color Conversion (43_color_conversion.md): hue to RGB at saturation 1 and value 1, no state.
-/
namespace Sys2Proof.Machine

/-- `HueToRgb(h)` (43_color_conversion.md R155); the sector table is the rule's, from general knowledge there (G1). The last
arm is sector 5, since `hw div SECTOR` is at most 5. -/
def hueToRgb (p : Params) (h : Nat) : Pixel :=
  let hw := h % p.TURN
  let r := hw % p.SECTOR
  let up := channelOfNat (255 * r / p.SECTOR)
  let down := channelOfNat (255 * (p.SECTOR - r) / p.SECTOR)
  match hw / p.SECTOR with
  | 0 => ⟨255, up, 0⟩
  | 1 => ⟨down, 255, 0⟩
  | 2 => ⟨0, 255, up⟩
  | 3 => ⟨0, down, 255⟩
  | 4 => ⟨up, 0, 255⟩
  | _ => ⟨255, 0, down⟩

end Sys2Proof.Machine
end

