-- ==== Sys2Proof/Machine/EffectEngine.lean ====
section
/-!
DEFINITION. The Effect Engine (41_effect_engine.md): one renderer per named mode and the tick. Each animated renderer paints
from the phase registers as they are and then advances them (R122); all write unscaled pixels.
-/
namespace Sys2Proof.Machine

/-- `RenderOff()` (41_effect_engine.md R112). -/
def renderOff (p : Params) (s : State) : State := s.fill p .black

/-- `RenderStatic()` (41_effect_engine.md R113). -/
def renderStatic (p : Params) (s : State) : State := s.fill p s.base

/-- The hue of pixel `i`, `(HUE + (i * TURN) div N) mod TURN` (41_effect_engine.md R114). -/
def rainbowHue (p : Params) (hue i : Nat) : Nat := (hue + i * p.TURN / p.N) % p.TURN

/-- `RenderRainbow()` (41_effect_engine.md R114). -/
def renderRainbow (p : Params) (s : State) : State :=
  (s.paint p fun i => hueToRgb p (rainbowHue p s.hue i)).setHue ((s.hue + p.HUE_STEP) % p.TURN)

/-- `3 * x^2 - 2 * x^3` with `x = (Sin(BREATH) + 1) / 2` (41_effect_engine.md R115). -/
def breathFactor (p : Params) (breath : Nat) : Rat :=
  let x := (p.Sin breath + 1) / 2
  3 * (x * x) - 2 * (x * x * x)

/-- `RenderBreathing()` (41_effect_engine.md R115). -/
def renderBreathing (p : Params) (s : State) : State :=
  (s.fill p (dimPixel (breathFactor p s.breath) s.base)).setBreath ((s.breath + p.BREATH_STEP) % p.TURN)

/-- The circular distance `min((i - CHASE_POS) mod N, (CHASE_POS - i) mod N)` (41_effect_engine.md R116). -/
def chaseDistance (p : Params) (pos i : Nat) : Nat :=
  min (((i : Int) - (pos : Int)) % (p.N : Int)).toNat (((pos : Int) - (i : Int)) % (p.N : Int)).toNat

/-- The falloff at a distance: 1, 3/5, 3/10, then 0 (41_effect_engine.md R116). -/
def chaseFalloff : Nat → Rat
  | 0 => 1
  | 1 => 3 / 5
  | 2 => 3 / 10
  | _ => 0

/-- `g = 4/5 + Sin(PULSE) / 5` (41_effect_engine.md R116). -/
def pulseFactor (p : Params) (pulse : Nat) : Rat := 4 / 5 + p.Sin pulse / 5

/-- `RenderChase()` (41_effect_engine.md R116). -/
def renderChase (p : Params) (s : State) : State :=
  ((s.paint p fun i => dimPixel (chaseFalloff (chaseDistance p s.chasePos i) * pulseFactor p s.pulse) s.base).setChasePos
    ((s.chasePos + 1) % p.N)).setPulse ((s.pulse + p.PULSE_STEP) % p.TURN)

/-- Pixel `i` of the music bar: BASE below `lit`, the fraction `rem / 255` of BASE at `lit`, black beyond
(41_effect_engine.md R117). -/
def musicPixel (p : Params) (level : Byte) (base : Pixel) (i : Nat) : Pixel :=
  let t := level.toNat * p.N
  let lit := t / 255
  let rem := t % 255
  if i < lit then base
  else if i = lit then base.mapChannels fun c => channelOfNat (c.toNat * rem / 255)
  else .black

/-- `RenderMusic()` (41_effect_engine.md R117). -/
def renderMusic (p : Params) (s : State) : State := s.paint p (musicPixel p s.music s.base)

/-- The ColorCycle update: the hue takes one step, BASE takes its colour, the stamp takes `now` (41_effect_engine.md R118). -/
def cycleUpdate (p : Params) (s : State) : State :=
  let hue := (s.cycHue + p.CYCLE_HUE_STEP) % p.TURN
  ((s.setCycHue hue).setBase (hueToRgb p hue)).setCycLast (timeInput p s)

/-- Whether an update is due, `(now - CYC_LAST) mod 2^TIME_BITS >= CYCLE_INTERVAL_MS` (41_effect_engine.md R118). -/
def cycleDue (p : Params) (s : State) : Bool := decide (p.CYCLE_INTERVAL_MS ≤ elapsedSince p s.cycLast s)

/-- The state a ColorCycle tick paints from: updated where an update is due. -/
def cycled (p : Params) (s : State) : State := if cycleDue p s then cycleUpdate p s else s

/-- `RenderColorCycle(now)` (41_effect_engine.md R118). -/
def renderColorCycle (p : Params) (s : State) : State := (cycled p s).fill p (cycled p s).base

/-- `Tick(now)`: the renderer of the mode, then one frame; refused in a reserved mode (41_effect_engine.md R110, R119). -/
def tick (p : Params) (s : State) : Host.Outcome State Fault Refusal :=
  match s.mode.toNat with
  | 0 => .next (emitFrame p (renderOff p s))
  | 1 => .next (emitFrame p (renderStatic p s))
  | 2 => .next (emitFrame p (renderRainbow p s))
  | 3 => .next (emitFrame p (renderBreathing p s))
  | 4 => .next (emitFrame p (renderChase p s))
  | 5 => .next (emitFrame p (renderMusic p s))
  | 6 => .next (emitFrame p (renderColorCycle p s))
  | _ => .refused (.tickInReservedMode s.mode)

end Sys2Proof.Machine
end

