-- ==== Sys2Proof/Machine/Events.lean ====
section
/-!
DEFINITION. The events (00_scope.md R12): a message through the decoder (40_command_decoder.md R90), `Connect` and `Disconnect`
(60_exceptions.md R180, R181), and the taking of one event.
-/
namespace Sys2Proof.Machine

/-- `for each frame F in CONNECT_FRAMES, in order: emit BUS(F) with its latch gap` (60_exceptions.md R180). -/
def sendFrames (p : Params) (frames : List (List Pixel)) (s : State) : State :=
  match frames with
  | [] => s
  | frame :: rest => sendFrames p rest (sendFrame p frame s)

/-- `FB <- unspecified value`: N free pixels, new ones at every draw (60_exceptions.md R180, U3, log 8). -/
def forgetFb (p : Params) (s : State) : State := (s.paint p (p.freePixel s.draws)).countDraw

/-- `Connect(now)` (60_exceptions.md R180). -/
def connect (p : Params) (s : State) : State := forgetFb p (sendFrames p p.CONNECT_FRAMES (raiseConnected s))

/-- `Disconnect(now)` (60_exceptions.md R181). -/
def disconnect (p : Params) (s : State) : State := immediateRender p .black (setModeTo p 0 (clearConnected s))

/-- The rejection of a malformed message, with the format and opcode as resolved, or none (60_exceptions.md R171). -/
def rejectMalformed (why : Malformed) (s : State) : State :=
  match why with
  | .empty => raiseRejection .malformedMessage none none s
  | .short f op => raiseRejection .malformedMessage (some f) (some op) s

/-- `Msg(bytes, now)` (40_command_decoder.md R90): the decoded instruction runs, or the message is rejected; a message over
MSG_MAX has no step (30_encoding.md R70, U6). -/
def receiveMessage (bytes : List Byte) (s : State) : Host.Outcome State Fault Refusal :=
  if bytes.length ≤ Config.device.MSG_MAX then
    match decode bytes with
    | .ok i => exec i s
    | .error why => .next (rejectMalformed why s)
  else .fault .messageTooLong

/-- An event that needs a `Reset` before it (70_reset_and_hazards.md R201). -/
def afterReset (s : State) (outcome : Host.Outcome State Fault Refusal) : Host.Outcome State Fault Refusal :=
  if s.wasReset then outcome else .refused .eventBeforeReset

/-- One event taken and processed to completion (20_memory.md R59); `rest` stays to be taken. -/
def takeEvent (e : Event) (rest : List Event) (s : State) : Host.Outcome State Fault Refusal :=
  match e with
  | .reset => .next (applyReset Config.device (s.takeInput rest s.now))
  | .msg bytes now => afterReset s (receiveMessage bytes (s.takeInput rest now))
  | .tick now => afterReset s (tick Config.device (s.takeInput rest now))
  | .connect now => afterReset s (.next (connect Config.device (s.takeInput rest now)))
  | .disconnect now => afterReset s (.next (disconnect Config.device (s.takeInput rest now)))

/-- What the core does next: the next event presented, or nothing while it waits for one (70_reset_and_hazards.md R201, log 3). -/
def takeNext (s : State) : Host.Outcome State Fault Refusal :=
  match s.inputs with
  | [] => .next s
  | e :: rest => takeEvent e rest s

/-- A message presented as the next event, at the present time, to a core that has been reset (log 1, log 11). -/
def presentMessage (bytes : List Byte) (s : State) : State :=
  { s with inputs := .msg bytes s.now :: s.inputs, wasReset := true }

end Sys2Proof.Machine
end

