-- ==== Sys2Proof/Machine/Step.lean ====
section
/-! DEFINITION. One step of the core is one event (00_scope.md R6), and a table word as the next message. -/

namespace Sys2Proof.Machine

/-- One step: the next event, processed to completion (00_scope.md R12, 20_memory.md R59). -/
def step (s : State) : Host.Outcome State Fault Refusal := takeNext s

/-- The core fetches no instructions (10_state.md R37): the message of the table word is presented as its next event. -/
def State.withFetchWord (s : State) (nbits w : Nat) : State := presentMessage (tableMessage nbits w) s

end Sys2Proof.Machine
end

