-- ==== Sys2Proof/Safety.lean ====
section
/-!
DEFINITION. What counts as a safe state and a safe run: the invariants of 10_state.md R36, the shape of what has been sent, the
separation of frames by latch gaps, and how many frames and records an event sends.
-/
namespace Sys2Proof.Machine

/-- The invariants "true after every event" of 10_state.md R36 that the types do not already give: (I-a), (I-c), (I-d), and the
width of CYC_LAST (R31). (I-b) and (I-f) hold by the types of `Pixel` and `mode`. -/
structure InRange (p : Params) (s : State) : Prop where
  fbLength : Memory.wf p s.fb
  bright : s.bright.toNat ≤ 100
  hue : s.hue < p.TURN
  breath : s.breath < p.TURN
  chasePos : s.chasePos < p.N
  pulse : s.pulse < p.TURN
  cycHue : s.cycHue < p.TURN
  cycLast : s.cycLast < 2 ^ p.TIME_BITS

/-- The shape of the output histories: every bus frame is `N * 24` bits (42_frame_renderer.md R142), every reply is REPLY_LEN
bytes (30_encoding.md R85). -/
structure OutputsShaped (p : Params) (s : State) : Prop where
  frames : ∀ frame ∈ s.bus, frame.bits.length = p.N * 24
  replies : ∀ msg ∈ s.reply, msg.length = p.REPLY_LEN

/-- "Two bus frames are always separated by at least `T_LATCH` of idle bus" (70_reset_and_hazards.md R204): every frame but the
first had that much idle before it, and the next one will. -/
structure LatchKept (p : Params) (s : State) : Prop where
  between : ∀ frame ∈ s.bus.tail, p.T_LATCH ≤ frame.idleBefore
  owed : s.bus ≠ [] → p.T_LATCH ≤ s.latch

/-- How many frames a message's instruction emits: one for SETCOLOR and OFF, none otherwise (42_frame_renderer.md R146). -/
def instrFrames : Instr → Nat
  | .setcolorB _ _ _ => 1
  | .setcolorA _ _ _ => 1
  | .offB => 1
  | .offA => 1
  | .setmodeB _ => 0
  | .setmodeA _ => 0
  | .setmusicB _ => 0
  | .setmusicA _ => 0
  | .setbrightB _ => 0
  | .setbrightA _ => 0
  | .pingB => 0
  | .pingA => 0
  | .unknownB _ => 0
  | .unknownA _ => 0

/-- How many frames an event emits (42_frame_renderer.md R146). -/
def eventFrames (p : Params) : Event → Nat
  | .reset => 0
  | .msg bytes _ =>
    match decode bytes with
    | .ok i => instrFrames i
    | .error _ => 0
  | .tick _ => 1
  | .connect _ => p.CONNECT_FRAMES.length
  | .disconnect _ => 1

/-- How many STATUS records an event emits: "one record per `Msg` event, none for other events" (60_exceptions.md R173). -/
def eventRecords : Event → Nat
  | .reset => 0
  | .msg _ _ => 1
  | .tick _ => 0
  | .connect _ => 0
  | .disconnect _ => 0

/-- The "new MODE" column of the transition table (41_effect_engine.md R111). -/
def modeAfter (mode : BitVec 8) : Event → BitVec 8
  | .reset => 0
  | .msg bytes _ =>
    match decode bytes with
    | .ok (.setmodeB m) => m
    | .ok (.setmodeA m) => m
    | .ok .offB => 0
    | .ok .offA => 0
    | .ok (.setcolorB _ _ _) => if mode = 0 then 1 else mode
    | .ok (.setcolorA _ _ _) => if mode = 0 then 1 else mode
    | .ok (.setmusicB _) => mode
    | .ok (.setmusicA _) => mode
    | .ok (.setbrightB _) => mode
    | .ok (.setbrightA _) => mode
    | .ok .pingB => mode
    | .ok .pingA => mode
    | .ok (.unknownB _) => mode
    | .ok (.unknownA _) => mode
    | .error _ => mode
  | .tick _ => mode
  | .connect _ => mode
  | .disconnect _ => 0

/-- Whether a message is a MalformedMessage or an UnknownOpcode (60_exceptions.md R170). -/
def isRejected (bytes : List Byte) : Bool :=
  match decode bytes with
  | .ok i => !isDefinedOpcode i.opcode
  | .error _ => true

/-- A state with its connection flag set aside, to compare two runs that differ in it only (10_state.md R25). -/
def withoutConn (s : State) : State := s.setConn false

/-- A state with its STATUS history set aside: what the two formats of one message must agree on (20_memory.md R57). -/
def withoutStatus (s : State) : State := { s with status := [] }

end Sys2Proof.Machine
end

