-- ==== Sys2Proof/Certificates/Slice0/Obligations.lean ====
section
/-!
DEFINITION. The statements for the provers. Each docstring names the rule of spec/ it formalises. The device's parameters are
opaque (log 6), so a statement about `Config.device` is one about every admissible device; a statement about a `p : Params`
with `p.Valid` says so outright. STATUS records have the spec's own form (D27) throughout.
-/

open Sys2Proof Sys2Proof.Machine

/-! ## Decoding and encoding -/

/-- Words written out from the layouts of 30_encoding.md R72, R73 and the opcodes of R74 decode to what they stand for. -/
def Obligations.WrittenWordsDecode : Prop :=
  decode [0x03, 0x0A, 0x14, 0x1E] = .ok (.setcolorB 10 20 30) ∧
  decode [0x00, 0x03, 0x0A, 0x14, 0x1E] = .ok (.setcolorA 10 20 30) ∧
  decode [0x00, 0x04] = .ok .offA ∧
  decode [0x05, 0x06] = .ok (.setmodeB 6) ∧
  decode [0x06, 0x00] = .ok (.setmusicB 0) ∧
  decode [0x00, 0x07, 0xC8] = .ok (.setbrightA 200) ∧
  decode [0xAA] = .ok .pingB ∧
  decode [0x00] = .ok (.unknownB 0x00)

/-- Decoding gives back every well-formed instruction from its encoding, whatever bytes trail it (30_encoding.md R71 to R77).
The one message that trailing bytes change is `[0x00]`, which more bytes turn into Format A (R79). -/
def Obligations.DecodeOfEncode : Prop :=
  ∀ (i : Instr) (trailing : List Byte), i.wf = true → (i = .unknownB 0x00 → trailing = []) →
    decode (encode i ++ trailing) = .ok i

/-- The other direction: a message that decodes to an instruction is that instruction's encoding and trailing bytes. -/
def Obligations.DecodeOnlyOfEncode : Prop :=
  ∀ (bytes : List Byte) (i : Instr), decode bytes = .ok i →
    i.wf = true ∧ ∃ trailing, bytes = encode i ++ trailing ∧ (i = .unknownB 0x00 → trailing = [])

/-- The decoder agrees with the opcode table: a message decodes to an instruction of the row that 30_encoding.md R88 has it
select, and to none where it selects none. -/
def Obligations.DecoderAgreesWithOpcodeTable : Prop :=
  ∀ bytes : List Byte, (selectRow bytes).map Row.mnemonic = (decode bytes).toOption.map Instr.mnemonic

/-- MalformedMessage "in exactly two cases" (60_exceptions.md R171): the empty message, and a payload shorter than the minimum of
one of 0x03, 0x05, 0x06, 0x07; the record carries the format and opcode as resolved, or none. -/
def Obligations.MalformedInExactlyTwoCases : Prop :=
  (∀ (bytes : List Byte) (why : Malformed), decode bytes = .error why ↔
    (bytes = [] ∧ why = .empty) ∨
    (∃ f payload, bytes = f.leadBytes ++ 0x03 :: payload ∧ payload.length < 3 ∧ why = .short f 0x03) ∨
    (∃ f op, (op = 0x05 ∨ op = 0x06 ∨ op = 0x07) ∧ bytes = f.leadBytes ++ [op] ∧ why = .short f op)) ∧
  (∀ s : State, rejectMalformed .empty s = { s with status := s.status ++ [⟨.malformedMessage, none, none⟩] }) ∧
  (∀ (f : Format) (op : Byte) (s : State), rejectMalformed (.short f op) s =
    { s with status := s.status ++ [⟨.malformedMessage, some f, some op⟩] })

/-- Opcode 0 is unusable (30_encoding.md R79): a longer message that starts with 0 is always read as Format A, and opcode 0 is
unknown in both formats. -/
def Obligations.OpcodeZeroUnusable : Prop :=
  decode [0x00] = .ok (.unknownB 0x00) ∧
  (∀ payload : List Byte, decode (0x00 :: 0x00 :: payload) = .ok (.unknownA 0x00)) ∧
  (∀ (op : Byte) (payload : List Byte) (i : Instr), decode (0x00 :: op :: payload) = .ok i → i.format = .A ∧ i.opcode = op)

/-! ## The step -/

/-- When the next event is a message that decodes to an instruction, the step is `exec` of it, the event taken and the time
input set (40_command_decoder.md R90, 20_memory.md R59; the queue of events is the model's, log 1 and 2). -/
def Obligations.StepRunsDecodedInstruction : Prop :=
  ∀ (s : State) (bytes : List Byte) (now : Nat) (rest : List Event) (i : Instr),
    s.wasReset = true → s.inputs = .msg bytes now :: rest → bytes.length ≤ Config.device.MSG_MAX → decode bytes = .ok i →
    step s = exec i { s with inputs := rest, now := now }

/-- The table word placed by `withFetchWord` is what the next step runs (the model's convention, log 1 and 11). -/
def Obligations.TableWordRunsNext : Prop :=
  ∀ (s : State) (nbits w : Nat) (i : Instr),
    decodeTableWord nbits w = some i → (tableMessage nbits w).length ≤ Config.device.MSG_MAX →
    step (s.withFetchWord nbits w) = exec i { s with wasReset := true }

/-- What a rejection does (60_exceptions.md R175): the step ends in a next state that differs in one STATUS record only, the event
being taken. The event taken and the time set are the model's (log 1, 2). -/
def Obligations.RejectionOnlyRecords : Prop :=
  ∀ (s : State) (bytes : List Byte) (now : Nat) (rest : List Event),
    s.wasReset = true → s.inputs = .msg bytes now :: rest → bytes.length ≤ Config.device.MSG_MAX →
    (decode bytes = .error .empty →
      step s = .next { s with inputs := rest, now := now, status := s.status ++ [⟨.malformedMessage, none, none⟩] }) ∧
    (∀ f op, decode bytes = .error (.short f op) →
      step s = .next { s with inputs := rest, now := now, status := s.status ++ [⟨.malformedMessage, some f, some op⟩] }) ∧
    (∀ op, decode bytes = .ok (.unknownB op) →
      step s = .next { s with inputs := rest, now := now, status := s.status ++ [⟨.unknownOpcode, some .B, some op⟩] }) ∧
    (∀ op, decode bytes = .ok (.unknownA op) →
      step s = .next { s with inputs := rest, now := now, status := s.status ++ [⟨.unknownOpcode, some .A, some op⟩] })

/-- "After `Reset` the core waits for its first event" (70_reset_and_hazards.md R201; that a waiting step answers the same state is
the model's, log 3). -/
def Obligations.WaitsForAnEvent : Prop :=
  ∀ s : State, s.inputs = [] → step s = .next s

/-- "`Reset` is the only event that can follow nothing" (70_reset_and_hazards.md R201, U10; the flag is the model's, log 4). -/
def Obligations.OnlyResetFollowsNothing : Prop :=
  ∀ (s : State) (e : Event) (rest : List Event), s.wasReset = false → s.inputs = e :: rest →
    (e ≠ .reset → step s = .refused .eventBeforeReset) ∧
    (e = .reset → ∃ t, step s = .next t ∧ t.wasReset = true)

/-- A message over MSG_MAX has no step (30_encoding.md R70, U6). -/
def Obligations.OverlongMessageStops : Prop :=
  ∀ (s : State) (bytes : List Byte) (now : Nat) (rest : List Event),
    s.wasReset = true → s.inputs = .msg bytes now :: rest → Config.device.MSG_MAX < bytes.length →
    step s = .fault .messageTooLong

/-! ## Reset -/

/-- The state after reset (10_state.md R42, 70_reset_and_hazards.md R200). MODE, BRIGHT and BASE are the source's; MUSIC, CONN,
CYC_LAST and FB are the spec's own choices D18 to D20 (log 12), the phase registers the open initial values. -/
def Obligations.ResetLeavesListedValues : Prop :=
  State.reset.mode = 0 ∧ State.reset.base = ⟨0, 0, 0⟩ ∧ State.reset.bright = 100 ∧
  State.reset.music = 0 ∧ State.reset.conn = false ∧
  State.reset.hue = Config.device.HUE_INIT ∧ State.reset.breath = Config.device.BREATH_INIT ∧
  State.reset.chasePos = Config.device.CHASE_POS_INIT ∧ State.reset.pulse = Config.device.PULSE_INIT ∧
  State.reset.cycHue = Config.device.CYC_HUE_INIT ∧ State.reset.cycLast = 0 ∧
  State.reset.fb.length = Config.device.N ∧ (∀ px ∈ State.reset.fb, px = ⟨0, 0, 0⟩) ∧
  State.reset.bus = [] ∧ State.reset.reply = [] ∧ State.reset.status = [] ∧ State.reset.latch = 0

/-- A `Reset` event in the middle of a run: "all state of the core is lost" (70_reset_and_hazards.md R201), what is outside the core
stays (the events to come, the time input, the strip's image, the count of free values: the model's, log 1, 2, 8, 10). -/
def Obligations.ResetEventRestoresResetState : Prop :=
  ∀ (s : State) (rest : List Event), s.inputs = .reset :: rest →
    step s = .next { State.reset with inputs := rest, now := s.now, strip := s.strip, draws := s.draws }

/-! ## The commands: what each writes, and by the record update that it writes nothing else -/

/-- SETCOLOR (40_command_decoder.md R91; that MODE changes from Off only is the spec's choice D33). The idle time, the latch
window and the strip are the model's (log 9, 10). -/
def Obligations.SetColorShowsAtOnce : Prop :=
  ∀ (r g b : Byte) (s : State),
    let px : Pixel := ⟨r, g, b⟩
    let bits := frameBits Config.device (List.replicate Config.device.N (scale px s.bright))
    let t : State :=
      { s with
        base := px
        mode := if s.mode = 0 then 1 else s.mode
        fb := List.replicate Config.device.N px
        bus := s.bus ++ [⟨s.latch, bits⟩]
        latch := Config.device.T_LATCH
        strip := bits }
    exec (.setcolorB r g b) s = .next { t with status := s.status ++ [⟨.accepted, some .B, some 0x03⟩] } ∧
    exec (.setcolorA r g b) s = .next { t with status := s.status ++ [⟨.accepted, some .A, some 0x03⟩] }

/-- OFF (40_command_decoder.md R92): MODE 0, BASE kept, FB black, one frame of all zero bits for every BRIGHT; no payload is needed
and none can make it malformed; a later SETMODE 1 shows the old colour again, and a later animated mode starts its phase
anew (10_state.md R34; the stamp is D11). The idle time, the latch window and the strip's image are the model's (log 9, 10). -/
def Obligations.OffBlacksTheStrip : Prop :=
  (∀ s : State,
    let bits := List.replicate (Config.device.N * 24) false
    let t : State :=
      { s with
        mode := 0
        fb := List.replicate Config.device.N ⟨0, 0, 0⟩
        bus := s.bus ++ [⟨s.latch, bits⟩]
        latch := Config.device.T_LATCH
        strip := bits }
    exec .offB s = .next { t with status := s.status ++ [⟨.accepted, some .B, some 0x04⟩] } ∧
    exec .offA s = .next { t with status := s.status ++ [⟨.accepted, some .A, some 0x04⟩] }) ∧
  (∀ payload : List Byte, decode (0x04 :: payload) = .ok .offB ∧ decode (0x00 :: 0x04 :: payload) = .ok .offA) ∧
  (∀ s t u : State, exec .offB s = .next t ∨ exec .offA s = .next t →
    exec (.setmodeB 1) t = .next u ∨ exec (.setmodeA 1) t = .next u →
    ∃ v, tick Config.device u = .next v ∧ v.fb = List.replicate Config.device.N s.base) ∧
  (∀ (s t u : State) (m : Byte), exec .offB s = .next t ∨ exec .offA s = .next t →
    exec (.setmodeB m) t = .next u ∨ exec (.setmodeA m) t = .next u →
    (m = 2 → u.hue = Config.device.HUE_INIT) ∧ (m = 3 → u.breath = Config.device.BREATH_INIT) ∧
    (m = 4 → u.chasePos = Config.device.CHASE_POS_INIT ∧ u.pulse = Config.device.PULSE_INIT) ∧
    (m = 6 → u.cycHue = Config.device.CYC_HUE_INIT ∧ u.cycLast = t.now % 2 ^ Config.device.TIME_BITS))

/-- SETMODE (40_command_decoder.md R93, 10_state.md R34): MODE and, when it changes, the phase registers of the new mode; no frame.
That the same mode is no transition, that the stamp is this event's time and that 7 to 255 are stored are D10, D11, D17. -/
def Obligations.SetModeRestartsPhase : Prop :=
  ∀ (m : Byte) (s : State),
    let t : State :=
      if m = s.mode then s
      else
        { s with
          mode := m
          hue := if m = 2 then Config.device.HUE_INIT else s.hue
          breath := if m = 3 then Config.device.BREATH_INIT else s.breath
          chasePos := if m = 4 then Config.device.CHASE_POS_INIT else s.chasePos
          pulse := if m = 4 then Config.device.PULSE_INIT else s.pulse
          cycLast := if m = 6 then s.now % 2 ^ Config.device.TIME_BITS else s.cycLast
          cycHue := if m = 6 then Config.device.CYC_HUE_INIT else s.cycHue }
    exec (.setmodeB m) s = .next { t with status := s.status ++ [⟨.accepted, some .B, some 0x05⟩] } ∧
    exec (.setmodeA m) s = .next { t with status := s.status ++ [⟨.accepted, some .A, some 0x05⟩] }

/-- SETMUSIC (40_command_decoder.md R94): MUSIC only, in every mode and for all 256 values; an empty payload is malformed; the level
is visible only while MODE is 5. That bytes after the level are not read is 30_encoding.md R77 (D37, log 14). -/
def Obligations.SetMusicStoresLevel : Prop :=
  (∀ (v : Byte) (s : State),
    exec (.setmusicB v) s = .next { s with music := v, status := s.status ++ [⟨.accepted, some .B, some 0x06⟩] } ∧
    exec (.setmusicA v) s = .next { s with music := v, status := s.status ++ [⟨.accepted, some .A, some 0x06⟩] }) ∧
  (∀ (v : Byte) (trailing : List Byte),
    decode (0x06 :: v :: trailing) = .ok (.setmusicB v) ∧ decode (0x00 :: 0x06 :: v :: trailing) = .ok (.setmusicA v)) ∧
  (decode [0x06] = .error (.short .B 0x06) ∧ decode [0x00, 0x06] = .error (.short .A 0x06)) ∧
  (∀ (v : Byte) (s t : State), s.mode ≠ 5 → tick Config.device s = .next t →
    tick Config.device { s with music := v } = .next { t with music := v })

/-- SETBRIGHT (40_command_decoder.md R95): BRIGHT := min(v, 100) and nothing else; an empty payload is malformed; at 0 every later
frame is all zero bits, at 100 a frame equals the Frame Buffer. That bytes after the
level are not read is 30_encoding.md R77 (D37, log 14), the idle time of a frame the model's (log 9). -/
def Obligations.SetBrightClampsBrightness : Prop :=
  (∀ (v : Byte) (s : State), ∃ level : BitVec 7, level.toNat = min v.toNat 100 ∧
    exec (.setbrightB v) s = .next { s with bright := level, status := s.status ++ [⟨.accepted, some .B, some 0x07⟩] } ∧
    exec (.setbrightA v) s = .next { s with bright := level, status := s.status ++ [⟨.accepted, some .A, some 0x07⟩] }) ∧
  (∀ (v : Byte) (trailing : List Byte),
    decode (0x07 :: v :: trailing) = .ok (.setbrightB v) ∧ decode (0x00 :: 0x07 :: v :: trailing) = .ok (.setbrightA v)) ∧
  (decode [0x07] = .error (.short .B 0x07) ∧ decode [0x00, 0x07] = .error (.short .A 0x07)) ∧
  (∀ s : State, s.bright = 0 →
    (emitFrame Config.device s).bus = s.bus ++ [⟨s.latch, List.replicate (s.fb.length * 24) false⟩]) ∧
  (∀ s : State, s.bright = 100 → (emitFrame Config.device s).bus = s.bus ++ [⟨s.latch, frameBits Config.device s.fb⟩])

/-- PING (40_command_decoder.md R96, 30_encoding.md R85): one reply of REPLY_LEN bytes, the tag and then zeros, the same in both
formats and whatever trails; no register. That no report-id byte precedes the reply is D25. -/
def Obligations.PingRepliesWithTag : Prop :=
  (∀ s : State, ∃ msg : List Byte,
    msg.length = Config.device.REPLY_LEN ∧ msg.take 4 = Config.device.ACK_TAG.toList ∧ (∀ byte ∈ msg.drop 4, byte = 0) ∧
    exec .pingB s =
      .next { s with reply := s.reply ++ [msg], status := s.status ++ [⟨.accepted, some .B, some 0xAA⟩] } ∧
    exec .pingA s =
      .next { s with reply := s.reply ++ [msg], status := s.status ++ [⟨.accepted, some .A, some 0xAA⟩] }) ∧
  (∀ trailing : List Byte, decode (0xAA :: trailing) = .ok .pingB ∧ decode (0x00 :: 0xAA :: trailing) = .ok .pingA)

/-- UNKNOWN (40_command_decoder.md R97): any opcode that is none of the six, with any payload, is rejected with its record and changes
nothing else. A Format B opcode 0 stands alone (30_encoding.md R79). -/
def Obligations.UnknownOpcodeIsRejected : Prop :=
  ∀ op : Byte, op ∉ ([0x03, 0x04, 0x05, 0x06, 0x07, 0xAA] : List Byte) →
    (∀ s : State,
      exec (.unknownB op) s = .next { s with status := s.status ++ [⟨.unknownOpcode, some .B, some op⟩] } ∧
      exec (.unknownA op) s = .next { s with status := s.status ++ [⟨.unknownOpcode, some .A, some op⟩] }) ∧
    (∀ payload : List Byte, decode (0x00 :: op :: payload) = .ok (.unknownA op)) ∧
    (∀ payload : List Byte, (op = 0 → payload = []) → decode (op :: payload) = .ok (.unknownB op))

/-! ## The Frame Renderer -/

/-- The brightness scaler (42_frame_renderer.md R141): `floor(channel * brightness / 100)`, the identity at 100 and zero at 0. -/
def Obligations.ScaleTruncates : Prop :=
  (∀ (px : Pixel) (b : BitVec 7), b.toNat ≤ 100 →
    (scale px b).r.toNat = px.r.toNat * b.toNat / 100 ∧
    (scale px b).g.toNat = px.g.toNat * b.toNat / 100 ∧
    (scale px b).b.toNat = px.b.toNat * b.toNat / 100) ∧
  (∀ px : Pixel, scale px 100 = px) ∧ (∀ px : Pixel, scale px 0 = ⟨0, 0, 0⟩)

/-- The bit order of a frame (42_frame_renderer.md R142, 20_memory.md R54, R55; eight bits a channel is D24): bit `j` of the `k`-th
channel of pixel `i` stands at index `24 i + 8 k + j`. -/
def Obligations.FrameBitsInOrder : Prop :=
  ∀ (p : Params) (scaled : List Pixel) (i k j : Nat) (px : Pixel) (c : Channel),
    scaled[i]? = some px → p.CHANNEL_ORDER.channels[k]? = some c → j < 8 →
    (frameBits p scaled)[24 * i + 8 * k + j]? =
      some ((px.channel c).getLsbD (match p.BIT_ORDER with | .msbFirst => 7 - j | .lsbFirst => j))

/-- "Two frames are equal as bit sequences exactly when they are equal as lists of scaled pixels" (42_frame_renderer.md R143). -/
def Obligations.FrameBitsDeterminePixels : Prop :=
  ∀ (p : Params) (as bs : List Pixel), frameBits p as = frameBits p bs ↔ as = bs

/-- What the Frame Renderer never does (42_frame_renderer.md R145): it writes no register and no pixel, looks at FB and BRIGHT only,
skips no frame, and emits none on its own initiative. The idle time, the latch window and the strip are the model's (log 9, 10),
as is the step that waits (log 3). -/
def Obligations.EmitFrameIsProjection : Prop :=
  (∀ (p : Params) (s : State), ∃ bits : List Bool,
    emitFrame p s = { s with bus := s.bus ++ [⟨s.latch, bits⟩], latch := p.T_LATCH, strip := bits } ∧
    ∀ s' : State, s'.fb = s.fb → s'.bright = s.bright → (emitFrame p s').bus = s'.bus ++ [⟨s'.latch, bits⟩]) ∧
  (∀ s t : State, s.inputs = [] → step s = .next t → t.bus = s.bus)

/-! ## Color Conversion -/

/-- `HueToRgb` (43_color_conversion.md R155, R156; the sector table and the two floors are the spec's own, D6 and G1): the sectors,
the wrap, and one channel at 255 and one at 0 in every result. -/
def Obligations.HueToRgbBySector : Prop :=
  ∀ (p : Params) (h : Nat), p.Valid →
    let hw := h % p.TURN
    let sec := hw / p.SECTOR
    let up := 255 * (hw % p.SECTOR) / p.SECTOR
    let down := 255 * (p.SECTOR - hw % p.SECTOR) / p.SECTOR
    let rgb := ((hueToRgb p h).r.toNat, (hueToRgb p h).g.toNat, (hueToRgb p h).b.toNat)
    sec ≤ 5 ∧ up ≤ 254 ∧ down ≤ 255 ∧
    (sec = 0 → rgb = (255, up, 0)) ∧ (sec = 1 → rgb = (down, 255, 0)) ∧ (sec = 2 → rgb = (0, 255, up)) ∧
    (sec = 3 → rgb = (0, down, 255)) ∧ (sec = 4 → rgb = (up, 0, 255)) ∧ (sec = 5 → rgb = (255, 0, down)) ∧
    hueToRgb p (h + p.TURN) = hueToRgb p h ∧
    (∃ c, (hueToRgb p h).channel c = 255) ∧ (∃ c, (hueToRgb p h).channel c = 0)

/-! ## The tick, mode by mode -/

/-- Off (41_effect_engine.md R112): all pixels at zero, one frame of zero bits, and nothing else changes.The event
taken and the time set are the model's (log 1, 2), as are the idle time, the latch window and the strip (log 9, 10). -/
def Obligations.TickOffIsBlack : Prop :=
  ∀ (s : State) (now : Nat) (rest : List Event), s.wasReset = true → s.inputs = .tick now :: rest → s.mode = 0 →
    let bits := List.replicate (Config.device.N * 24) false
    step s = .next
      { s with
        inputs := rest
        now := now
        fb := List.replicate Config.device.N ⟨0, 0, 0⟩
        bus := s.bus ++ [⟨s.latch, bits⟩]
        latch := Config.device.T_LATCH
        strip := bits }

/-- Static (41_effect_engine.md R113): all pixels at the unscaled base colour, the frame scaled by BRIGHT.The event
taken and the time set are the model's (log 1, 2), as are the idle time, the latch window and the strip (log 9, 10). -/
def Obligations.TickStaticShowsBase : Prop :=
  ∀ (s : State) (now : Nat) (rest : List Event), s.wasReset = true → s.inputs = .tick now :: rest → s.mode = 1 →
    let bits := frameBits Config.device (List.replicate Config.device.N (scale s.base s.bright))
    step s = .next
      { s with
        inputs := rest
        now := now
        fb := List.replicate Config.device.N s.base
        bus := s.bus ++ [⟨s.latch, bits⟩]
        latch := Config.device.T_LATCH
        strip := bits }

/-- Rainbow (41_effect_engine.md R114; the spacing and the order are the spec's D7, D8).The event
taken and the time set are the model's (log 1, 2), as are the idle time, the latch window and the strip (log 9, 10). -/
def Obligations.TickRainbowTurns : Prop :=
  ∀ (s : State) (now : Nat) (rest : List Event), s.wasReset = true → s.inputs = .tick now :: rest → s.mode = 2 →
    let d := Config.device
    let fb := (List.range d.N).map fun i => hueToRgb d ((s.hue + i * d.TURN / d.N) % d.TURN)
    let bits := frameBits d (fb.map fun px => scale px s.bright)
    step s = .next
      { s with
        inputs := rest
        now := now
        fb := fb
        hue := (s.hue + d.HUE_STEP) % d.TURN
        bus := s.bus ++ [⟨s.latch, bits⟩]
        latch := d.T_LATCH
        strip := bits }

/-- Breathing (41_effect_engine.md R115; D4, D5, D8, D15): every channel is the floor of BASE times the smoothstep of the rescaled
sine; the phase range is the invariant of 10_state.md R36.The event
taken and the time set are the model's (log 1, 2), as are the idle time, the latch window and the strip (log 9, 10). -/
def Obligations.TickBreathingDimsBase : Prop :=
  ∀ (s : State) (now : Nat) (rest : List Event), s.wasReset = true → s.inputs = .tick now :: rest → s.mode = 3 →
    s.breath < Config.device.TURN →
    let d := Config.device
    let x : Rat := (d.Sin s.breath + 1) / 2
    let f : Rat := 3 * x ^ 2 - 2 * x ^ 3
    ∃ px : Pixel,
      (∀ c : Channel, ((px.channel c).toNat : Int) = ⌊((s.base.channel c).toNat : Rat) * f⌋) ∧
      step s = .next
        { s with
          inputs := rest
          now := now
          fb := List.replicate d.N px
          breath := (s.breath + d.BREATH_STEP) % d.TURN
          bus := s.bus ++ [⟨s.latch, frameBits d (List.replicate d.N (scale px s.bright))⟩]
          latch := d.T_LATCH
          strip := frameBits d (List.replicate d.N (scale px s.bright)) }

/-- Breathing at the four named angles (41_effect_engine.md R115 corner cases a to d), from the named properties of the sine only. -/
def Obligations.BreathingAtNamedAngles : Prop :=
  ∀ (p : Params) (s : State),
    (p.Sin90 → s.breath = 90 * p.ANGLE_Q → (renderBreathing p s).fb = List.replicate p.N s.base) ∧
    (p.Sin270 → s.breath = 270 * p.ANGLE_Q → (renderBreathing p s).fb = List.replicate p.N ⟨0, 0, 0⟩) ∧
    (p.Sin0 → s.breath = 0 → ∀ px ∈ (renderBreathing p s).fb, ∀ c : Channel,
      (px.channel c).toNat = (s.base.channel c).toNat / 2) ∧
    (p.Sin30 → s.breath = 30 * p.ANGLE_Q → ∀ px ∈ (renderBreathing p s).fb, ∀ c : Channel,
      (px.channel c).toNat = (s.base.channel c).toNat * 27 / 32)

/-- Chase (41_effect_engine.md R116; D4, D5, D8, D14): each channel is the floor of BASE times the falloff at the circular distance
times the pulse, then the position takes one step and the pulse its own.The event
taken and the time set are the model's (log 1, 2), as are the idle time, the latch window and the strip (log 9, 10). -/
def Obligations.TickChaseLightsAround : Prop :=
  ∀ (s : State) (now : Nat) (rest : List Event), s.wasReset = true → s.inputs = .tick now :: rest → s.mode = 4 →
    s.chasePos < Config.device.N → s.pulse < Config.device.TURN →
    let d := Config.device
    let g : Rat := 4 / 5 + d.Sin s.pulse / 5
    let dist (i : Nat) : Nat := min ((i + d.N - s.chasePos) % d.N) ((s.chasePos + d.N - i) % d.N)
    let f (i : Nat) : Rat := if dist i = 0 then 1 else if dist i = 1 then 3 / 5 else if dist i = 2 then 3 / 10 else 0
    ∃ fb : List Pixel, fb.length = d.N ∧
      (∀ (i : Nat) (px : Pixel), fb[i]? = some px → ∀ c : Channel,
        ((px.channel c).toNat : Int) = ⌊((s.base.channel c).toNat : Rat) * f i * g⌋) ∧
      step s = .next
        { s with
          inputs := rest
          now := now
          fb := fb
          chasePos := (s.chasePos + 1) % d.N
          pulse := (s.pulse + d.PULSE_STEP) % d.TURN
          bus := s.bus ++ [⟨s.latch, frameBits d (fb.map fun px => scale px s.bright)⟩]
          latch := d.T_LATCH
          strip := frameBits d (fb.map fun px => scale px s.bright) }

/-- Source property P-5 (41_effect_engine.md R116(a)): over N consecutive ticks the position visits every index exactly once, then
repeats. -/
def Obligations.ChaseVisitsEveryIndex : Prop :=
  ∀ (s : State) (ticks rest : List Event), s.wasReset = true → s.mode = 4 → s.chasePos < Config.device.N →
    s.inputs = ticks ++ rest → (∀ e ∈ ticks, ∃ now, e = .tick now) →
    (∃ t, core.run ticks.length s = .next t ∧ t.mode = 4 ∧ t.chasePos = (s.chasePos + ticks.length) % Config.device.N) ∧
    (∀ i, i < Config.device.N → ∃! k, k < Config.device.N ∧ (s.chasePos + k) % Config.device.N = i)

/-- Music (41_effect_engine.md R117; D5, D16): the bar, empty at level 0 and full at 255 (source property P-6).The event
taken and the time set are the model's (log 1, 2), as are the idle time, the latch window and the strip (log 9, 10). -/
def Obligations.TickMusicDrawsBar : Prop :=
  ∀ (s : State) (now : Nat) (rest : List Event), s.wasReset = true → s.inputs = .tick now :: rest → s.mode = 5 →
    let d := Config.device
    let lit := s.music.toNat * d.N / 255
    let rem := s.music.toNat * d.N % 255
    ∃ fb : List Pixel, fb.length = d.N ∧
      (∀ (i : Nat) (px : Pixel), fb[i]? = some px →
        (i < lit → px = s.base) ∧
        (i = lit → ∀ c : Channel, (px.channel c).toNat = (s.base.channel c).toNat * rem / 255) ∧
        (lit < i → px = ⟨0, 0, 0⟩)) ∧
      (s.music = 0 → fb = List.replicate d.N ⟨0, 0, 0⟩) ∧
      (s.music = 255 → fb = List.replicate d.N s.base) ∧
      step s = .next
        { s with
          inputs := rest
          now := now
          fb := fb
          bus := s.bus ++ [⟨s.latch, frameBits d (fb.map fun px => scale px s.bright)⟩]
          latch := d.T_LATCH
          strip := frameBits d (fb.map fun px => scale px s.bright) }

/-- ColorCycle (41_effect_engine.md R118; D11 to D13): the hue, BASE and the stamp are updated exactly when the interval has elapsed,
and every tick shows BASE.The event
taken and the time set are the model's (log 1, 2), as are the idle time, the latch window and the strip (log 9, 10). -/
def Obligations.TickColorCycleByInterval : Prop :=
  ∀ (s : State) (now : Nat) (rest : List Event), s.wasReset = true → s.inputs = .tick now :: rest → s.mode = 6 →
    let d := Config.device
    let turn := 2 ^ d.TIME_BITS
    let stamp := now % turn
    let elapsed := ((stamp : Int) - (s.cycLast : Int)) % (turn : Int)
    let due := (d.CYCLE_INTERVAL_MS : Int) ≤ elapsed
    let hue := (s.cycHue + d.CYCLE_HUE_STEP) % d.TURN
    ∃ t : State, step s = .next t ∧
      (due → t.cycHue = hue ∧ t.base = hueToRgb d hue ∧ t.cycLast = stamp) ∧
      (¬ due → t.cycHue = s.cycHue ∧ t.base = s.base ∧ t.cycLast = s.cycLast) ∧
      t =
        { s with
          inputs := rest
          now := now
          cycHue := t.cycHue
          base := t.base
          cycLast := t.cycLast
          fb := List.replicate d.N t.base
          bus := s.bus ++ [⟨s.latch, frameBits d (List.replicate d.N (scale t.base s.bright))⟩]
          latch := d.T_LATCH
          strip := frameBits d (List.replicate d.N (scale t.base s.bright)) }

/-- "A model must treat a `Tick` with MODE ≥ 7 as refused", and every other event keeps its meaning there: an instruction, a
Reset, a connection signal, and every message no longer than MSG_MAX, accepted or rejected (41_effect_engine.md R119; D17, log 7;
the flag and the list of events are log 1 and 4). -/
def Obligations.TickInReservedModeRefused : Prop :=
  (∀ (s : State) (now : Nat) (rest : List Event), s.wasReset = true → s.inputs = .tick now :: rest → 7 ≤ s.mode.toNat →
    step s = .refused (.tickInReservedMode s.mode)) ∧
  (∀ (s : State) (i : Instr), 7 ≤ s.mode.toNat → ∃ t, exec i s = .next t) ∧
  (∀ (s : State) (e : Event) (rest : List Event), s.wasReset = true → s.inputs = e :: rest → 7 ≤ s.mode.toNat →
    (∀ now, e ≠ .tick now) → (∀ bytes now, e = .msg bytes now → bytes.length ≤ Config.device.MSG_MAX) →
    ∃ t, step s = .next t)

/-! ## The connection signals -/

/-- `Connect` (60_exceptions.md R180; D21, log 8, 16): the flag is set, CONNECT_FRAMES go out in order, each with its latch gap
(the first after what was owed, the others after T_LATCH; log 9), the strip shows the last of them (log 10), FB holds some N
pixels (free values, one draw counted), and nothing else changes. An empty sequence sends nothing and leaves the latch window
and the strip. -/
def Obligations.ConnectPlaysSequence : Prop :=
  ∀ (s : State) (now : Nat) (rest : List Event), s.wasReset = true → s.inputs = .connect now :: rest →
    let d := Config.device
    let frames := d.CONNECT_FRAMES.map (frameBits d)
    ∃ (fb : List Pixel) (sent : List BusFrame), fb.length = d.N ∧
      sent.map BusFrame.bits = frames ∧
      sent.map BusFrame.idleBefore = (s.latch :: List.replicate frames.length d.T_LATCH).take frames.length ∧
      step s = .next
        { s with
          inputs := rest
          now := now
          conn := true
          fb := fb
          bus := s.bus ++ sent
          latch := if frames = [] then s.latch else d.T_LATCH
          strip := frames.getLast?.getD s.strip
          draws := s.draws + 1 }

/-- `Disconnect` (60_exceptions.md R181; that the black frame goes out at once is D22): the flag is cleared, MODE is Off, one black
frame; BASE, MUSIC, BRIGHT and every phase register stay.The event
taken and the time set are the model's (log 1, 2), as are the idle time, the latch window and the strip (log 9, 10). -/
def Obligations.DisconnectForcesOff : Prop :=
  ∀ (s : State) (now : Nat) (rest : List Event), s.wasReset = true → s.inputs = .disconnect now :: rest →
    let bits := List.replicate (Config.device.N * 24) false
    step s = .next
      { s with
        inputs := rest
        now := now
        conn := false
        mode := 0
        fb := List.replicate Config.device.N ⟨0, 0, 0⟩
        bus := s.bus ++ [⟨s.latch, bits⟩]
        latch := Config.device.T_LATCH
        strip := bits }

/-! ## Invariants -/

/-- The ranges of 10_state.md R36 (I-a), (I-c), (I-d) are kept by every step, from every state in range. -/
def Obligations.StepKeepsRanges : Prop :=
  ∀ s t : State, InRange Config.device s → step s = .next t → InRange Config.device t

/-- Every frame on BUS is `N * 24` bits and every reply REPLY_LEN bytes, from every state where it is so (42_frame_renderer.md R142,
30_encoding.md R85). -/
def Obligations.StepKeepsOutputShapes : Prop :=
  ∀ s t : State, OutputsShaped Config.device s → step s = .next t → OutputsShaped Config.device t

/-- "Two bus frames are always separated by at least `T_LATCH` of idle bus" (70_reset_and_hazards.md R204): kept by every step. -/
def Obligations.StepKeepsLatchGaps : Prop :=
  ∀ s t : State, LatchKept Config.device s → step s = .next t → LatchKept Config.device t

/-- The three invariants hold at reset. -/
def Obligations.ResetMeetsInvariants : Prop :=
  InRange Config.device State.reset ∧ OutputsShaped Config.device State.reset ∧ LatchKept Config.device State.reset

/-- The strip shows the last frame sent, once there is one (10_state.md R40(b); that it latches a frame within the event that
sends it, and keeps it over a `Reset`, is the model's, log 10): kept by every step. -/
def Obligations.StripShowsLastFrame : Prop :=
  (∀ s t : State, (∀ frame, s.bus.getLast? = some frame → s.strip = frame.bits) → step s = .next t →
    ∀ frame, t.bus.getLast? = some frame → t.strip = frame.bits) ∧
  (∀ s t : State, step s = .next t → t.bus = s.bus ∨ t.bus = [] → t.strip = s.strip)

/-! ## Rules of the whole machine -/

/-- The mode state machine (41_effect_engine.md R111, the "new MODE" column): MODE changes only as the table says. -/
def Obligations.ModeFollowsTransitionTable : Prop :=
  ∀ (s t : State) (e : Event) (rest : List Event), s.inputs = e :: rest → step s = .next t → t.mode = modeAfter s.mode e

/-- Writers of Controller State (10_state.md R26): a tick writes none of it, but for BASE by a ColorCycle update; `Disconnect` writes
MODE and CONN; `Connect` writes CONN; a rejected message writes none. -/
def Obligations.ControllerStateWriters : Prop :=
  ∀ (s t : State) (e : Event) (rest : List Event), s.inputs = e :: rest → step s = .next t →
    (∀ now, e = .tick now → t.mode = s.mode ∧ t.music = s.music ∧ t.bright = s.bright ∧ t.conn = s.conn ∧
      (t.base ≠ s.base → s.mode = 6 ∧ cycleDue Config.device (s.takeInput rest now) = true)) ∧
    (∀ now, e = .connect now → t.mode = s.mode ∧ t.base = s.base ∧ t.music = s.music ∧ t.bright = s.bright ∧ t.conn = true) ∧
    (∀ now, e = .disconnect now → t.mode = 0 ∧ t.base = s.base ∧ t.music = s.music ∧ t.bright = s.bright ∧ t.conn = false) ∧
    (∀ bytes now, e = .msg bytes now → t.conn = s.conn ∧
      (isRejected bytes = true →
        t.mode = s.mode ∧ t.base = s.base ∧ t.music = s.music ∧ t.bright = s.bright))

/-- Ownership of phase state (10_state.md R33): a tick neither reads nor writes a phase register of another mode (writing one first
and ticking is ticking and writing it then), and no message but a mode change touches phase state. -/
def Obligations.PhaseStateIsOwned : Prop :=
  (∀ (s t : State) (v : Nat), tick Config.device s = .next t →
    (s.mode ≠ 2 → tick Config.device { s with hue := v } = .next { t with hue := v }) ∧
    (s.mode ≠ 3 → tick Config.device { s with breath := v } = .next { t with breath := v }) ∧
    (s.mode ≠ 4 → tick Config.device { s with chasePos := v } = .next { t with chasePos := v }) ∧
    (s.mode ≠ 4 → tick Config.device { s with pulse := v } = .next { t with pulse := v }) ∧
    (s.mode ≠ 6 → tick Config.device { s with cycLast := v } = .next { t with cycLast := v }) ∧
    (s.mode ≠ 6 → tick Config.device { s with cycHue := v } = .next { t with cycHue := v })) ∧
  (∀ (s t : State) (bytes : List Byte), receiveMessage bytes s = .next t →
    t.mode = s.mode ∨ (∀ m, decode bytes ≠ .ok (.setmodeB m) ∧ decode bytes ≠ .ok (.setmodeA m)) →
    t.hue = s.hue ∧ t.breath = s.breath ∧ t.chasePos = s.chasePos ∧ t.pulse = s.pulse ∧ t.cycLast = s.cycLast ∧
      t.cycHue = s.cycHue) ∧
  (∀ (p : Params) (px : Pixel) (s : State),
    let t := immediateRender p px s
    t.hue = s.hue ∧ t.breath = s.breath ∧ t.chasePos = s.chasePos ∧ t.pulse = s.pulse ∧ t.cycLast = s.cycLast ∧
      t.cycHue = s.cycHue)

/-- "A change to a register a mode does not use cannot change that mode's frames" (41_effect_engine.md R123). -/
def Obligations.ModesIgnoreUnusedRegisters : Prop :=
  ∀ s t : State, tick Config.device s = .next t →
    (∀ px : Pixel, s.mode = 0 ∨ s.mode = 2 → tick Config.device { s with base := px } = .next { t with base := px }) ∧
    (∀ v : Byte, s.mode ≠ 5 → tick Config.device { s with music := v } = .next { t with music := v }) ∧
    (∀ c : Bool, tick Config.device { s with conn := c } = .next { t with conn := c }) ∧
    (∀ b : BitVec 7, ∃ t' : State, tick Config.device { s with bright := b } = .next t' ∧ t'.fb = t.fb ∧
      (s.mode = 0 → t'.bus = t.bus))

/-- "Nothing in the core reads" CONN (10_state.md R25; D23): two runs that differ in CONN only take steps that differ in CONN only. -/
def Obligations.NothingReadsConn : Prop :=
  ∀ (s : State) (c : Bool),
    (∀ t, step s = .next t → ∃ t', step (s.setConn c) = .next t' ∧ withoutConn t' = withoutConn t) ∧
    (∀ f, step s = .fault f → step (s.setConn c) = .fault f) ∧
    (∀ r, step s = .refused r → step (s.setConn c) = .refused r)

/-- The two formats of one message leave the same state and differ in the format of the STATUS record only (source property P-1,
20_memory.md R57, 40_command_decoder.md R91(f)). -/
def Obligations.FormatsLeaveSameState : Prop :=
  ∀ (s : State) (op : Byte) (payload : List Byte), op ≠ 0 → payload.length + 2 ≤ Config.device.MSG_MAX →
    ∃ tB tA, receiveMessage (op :: payload) s = .next tB ∧ receiveMessage (0x00 :: op :: payload) s = .next tA ∧
      withoutStatus tB = withoutStatus tA ∧
      ∃ outcome, tB.status = s.status ++ [⟨outcome, some .B, some op⟩] ∧ tA.status = s.status ++ [⟨outcome, some .A, some op⟩]

/-- The number of frames an event puts on BUS (42_frame_renderer.md R146) and of STATUS records (60_exceptions.md R173). -/
def Obligations.FramesAndRecordsPerEvent : Prop :=
  ∀ (s t : State) (e : Event) (rest : List Event), s.inputs = e :: rest → e ≠ .reset → step s = .next t →
    t.bus.length = s.bus.length + eventFrames Config.device e ∧ t.status.length = s.status.length + eventRecords e

/-- The output histories only grow, and only PING appends to REPLY (10_state.md R39, 40_command_decoder.md R96(a)). -/
def Obligations.HistoriesOnlyGrow : Prop :=
  ∀ (s t : State) (e : Event) (rest : List Event), s.inputs = e :: rest → e ≠ .reset → step s = .next t →
    s.bus <+: t.bus ∧ s.reply <+: t.reply ∧ s.status <+: t.status ∧
    (t.reply ≠ s.reply → ∃ bytes now, e = .msg bytes now ∧ (decode bytes = .ok .pingB ∨ decode bytes = .ok .pingA))
end

