-- ==== Sys2Proof/Laws/Config.lean ====
section
/-!
SUPPORT. The device's parameters lie in the domains of 00_scope.md R7 and R8, whatever the opaque constants are.
-/
namespace Sys2Proof

theorem Params.TURN_pos {p : Params} (h : p.Valid) : 0 < p.TURN := by
  have := h.ANGLE_Q_pos
  unfold Params.TURN
  omega

theorem Params.SECTOR_pos {p : Params} (h : p.Valid) : 0 < p.SECTOR := by
  have := h.ANGLE_Q_pos
  unfold Params.SECTOR
  omega

/-- A turn is six sectors (00_scope.md R8). -/
theorem Params.TURN_eq_sectors (p : Params) : p.TURN = 6 * p.SECTOR := by
  unfold Params.TURN Params.SECTOR
  omega

theorem Config.device_TURN_pos : 0 < Config.device.TURN := by
  show 0 < 360 * (Config.angleUnitsLessOne + 1)
  omega

theorem Config.device_valid : Config.device.Valid where
  N_pos := Nat.succ_le_succ (Nat.zero_le _)
  MSG_MAX_ge := Nat.le_add_left 5 Config.messageMaxLessFive
  REPLY_LEN_ge := Nat.le_add_left 4 Config.replyLengthLessFour
  ANGLE_Q_pos := Nat.succ_le_succ (Nat.zero_le _)
  HUE_STEP_lt := Nat.mod_lt _ Config.device_TURN_pos
  HUE_INIT_lt := Nat.mod_lt _ Config.device_TURN_pos
  BREATH_STEP_lt := Nat.mod_lt _ Config.device_TURN_pos
  BREATH_INIT_lt := Nat.mod_lt _ Config.device_TURN_pos
  CHASE_POS_INIT_lt := Nat.mod_lt _ (Nat.succ_pos _)
  PULSE_STEP_lt := Nat.mod_lt _ Config.device_TURN_pos
  PULSE_INIT_lt := Nat.mod_lt _ Config.device_TURN_pos
  CYCLE_HUE_STEP_lt := Nat.mod_lt _ Config.device_TURN_pos
  CYC_HUE_INIT_lt := Nat.mod_lt _ Config.device_TURN_pos
  TICK_PERIOD_MS_pos := Nat.succ_le_succ (Nat.zero_le _)
  TIME_BITS_pos := Nat.succ_le_succ (Nat.zero_le _)
  T_LATCH_pos := Nat.succ_le_succ (Nat.zero_le _)
  sinRange := fun _ _ => ⟨le_max_left _ _, max_le (by norm_num) (min_le_left _ _)⟩
  connectFrames := by
    intro frame h
    obtain ⟨raw, -, rfl⟩ := List.mem_map.mp h
    rw [List.length_map, List.length_range]
    rfl

end Sys2Proof
end

