-- ==== Sys2Proof/Laws/Decode.lean ====
section
/-!
SUPPORT. What the decoder can do: how framing resolves each shape of message, and the inversion of the case on the opcode, so
that later proofs do not unfold it (30_encoding.md R71, R75, R80).
-/
namespace Sys2Proof

theorem decode_nil : decode [] = .error .empty := rfl

/-- A message of two bytes or more that starts with zero is Format A (30_encoding.md R71). -/
theorem decode_formatA (op : Byte) (payload : List Byte) : decode (0x00 :: op :: payload) = decodeBody .A op payload := rfl

/-- One byte alone is Format B (30_encoding.md R71). -/
theorem decode_single (op : Byte) : decode [op] = decodeBody .B op [] := rfl

/-- A message that does not start with zero is Format B (30_encoding.md R71). -/
theorem decode_formatB {op : Byte} (h : op ≠ 0x00) (payload : List Byte) : decode (op :: payload) = decodeBody .B op payload := by
  cases payload with
  | nil => rfl
  | cons b rest =>
    have hf : resolveFraming (op :: b :: rest) = some (.B, op, b :: rest) := if_neg h
    unfold decode
    rw [hf]

/-- Every message has one of three shapes. -/
theorem message_cases (bytes : List Byte) :
    bytes = [] ∨ (∃ op payload, bytes = 0x00 :: op :: payload) ∨
      (∃ op payload, bytes = op :: payload ∧ (op = 0x00 → payload = [])) := by
  rcases bytes with _ | ⟨b0, _ | ⟨b1, rest⟩⟩
  · exact .inl rfl
  · exact .inr (.inr ⟨b0, [], rfl, fun _ => rfl⟩)
  · by_cases h : b0 = 0x00
    · exact .inr (.inl ⟨b1, rest, by rw [h]⟩)
    · exact .inr (.inr ⟨b0, b1 :: rest, rfl, fun h0 => absurd h0 h⟩)

/-- Format B in both its shapes. -/
theorem decode_formatB_of {op : Byte} {payload : List Byte} (h : op = 0x00 → payload = []) :
    decode (op :: payload) = decodeBody .B op payload := by
  by_cases h0 : op = 0x00
  · rw [h h0, decode_single]
  · exact decode_formatB h0 payload

/-- An opcode that is none of the six is unknown whatever the payload (30_encoding.md R80). -/
theorem decodeBody_unknown {op : Byte} (h : isDefinedOpcode op = false) (f : Format) (payload : List Byte) :
    decodeBody f op payload = .ok (f.pick (.unknownA op) (.unknownB op)) := by
  simp only [isDefinedOpcode, definedOpcodes, List.contains_cons, List.contains_nil, Bool.or_false, Bool.or_eq_false_iff,
    beq_eq_false_iff_ne] at h
  obtain ⟨h3, h4, h5, h6, h7, hA⟩ := h
  unfold decodeBody
  rw [if_neg h3, if_neg h4, if_neg h5, if_neg h6, if_neg h7, if_neg hA]

/-- An accepted body gives a well-formed instruction of its format and opcode, whose operands the payload begins with. -/
theorem decodeBody_ok {f : Format} {op : Byte} {payload : List Byte} {i : Instr} (h : decodeBody f op payload = .ok i) :
    i.wf = true ∧ i.format = f ∧ i.opcode = op ∧ ∃ trailing, payload = i.operands ++ trailing := by
  by_cases hd : isDefinedOpcode op = false
  · rw [decodeBody_unknown hd] at h
    cases h
    cases f <;> exact ⟨by simp [Format.pick, Instr.wf, hd], rfl, rfl, payload, rfl⟩
  · unfold decodeBody at h
    repeat' split at h
    all_goals first | (cases h; done) | skip
    all_goals cases h
    all_goals subst_vars
    all_goals first
      | (cases f <;> exact ⟨rfl, rfl, rfl, _, rfl⟩)
      | skip
    rename_i h3 h4 h5 h6 h7 hA
    have h3' := beq_eq_false_iff_ne.mpr h3
    have h4' := beq_eq_false_iff_ne.mpr h4
    have h5' := beq_eq_false_iff_ne.mpr h5
    have h6' := beq_eq_false_iff_ne.mpr h6
    have h7' := beq_eq_false_iff_ne.mpr h7
    have hA' := beq_eq_false_iff_ne.mpr hA
    exact absurd (by simp only [isDefinedOpcode, definedOpcodes, List.contains_cons, h3', h4', h5', h6', h7', hA',
      Bool.false_or, List.contains_nil]) hd

/-- A rejected body is short of the minimum of its opcode (30_encoding.md R75). -/
theorem decodeBody_error {f : Format} {op : Byte} {payload : List Byte} {why : Malformed}
    (h : decodeBody f op payload = .error why) :
    why = .short f op ∧ payload.length < minPayload op ∧
      ((op = 0x03 ∧ payload.length < 3) ∨ ((op = 0x05 ∨ op = 0x06 ∨ op = 0x07) ∧ payload = [])) := by
  unfold decodeBody at h
  split at h
  case isTrue h3 =>
    subst h3
    rcases payload with _ | ⟨r, _ | ⟨g, _ | ⟨b, rest⟩⟩⟩ <;> cases h <;> exact ⟨rfl, by simp [minPayload], .inl ⟨rfl, by simp⟩⟩
  case isFalse h3 =>
    split at h
    case isTrue => cases h
    case isFalse h4 =>
      split at h
      case isTrue h5 =>
        subst h5
        cases payload <;> cases h
        exact ⟨rfl, by decide, .inr ⟨.inl rfl, rfl⟩⟩
      case isFalse h5 =>
        split at h
        case isTrue h6 =>
          subst h6
          cases payload <;> cases h
          exact ⟨rfl, by decide, .inr ⟨.inr (.inl rfl), rfl⟩⟩
        case isFalse h6 =>
          split at h
          case isTrue h7 =>
            subst h7
            cases payload <;> cases h
            exact ⟨rfl, by decide, .inr ⟨.inr (.inr rfl), rfl⟩⟩
          case isFalse h7 => split at h <;> cases h

end Sys2Proof
end

