-- ==== Sys2Proof/Laws/State.lean ====
section
/-!
SUPPORT. What each register write and each append leaves in each field of the state: one lemma per field per update, so that
no later proof unfolds an update.
-/
namespace Sys2Proof.Machine.State

/-! `setMode` -/

@[simp] theorem setMode_mode (s : State) (m : BitVec 8) : (s.setMode m).mode = m := rfl
@[simp] theorem setMode_base (s : State) (m : BitVec 8) : (s.setMode m).base = s.base := rfl
@[simp] theorem setMode_music (s : State) (m : BitVec 8) : (s.setMode m).music = s.music := rfl
@[simp] theorem setMode_bright (s : State) (m : BitVec 8) : (s.setMode m).bright = s.bright := rfl
@[simp] theorem setMode_conn (s : State) (m : BitVec 8) : (s.setMode m).conn = s.conn := rfl
@[simp] theorem setMode_hue (s : State) (m : BitVec 8) : (s.setMode m).hue = s.hue := rfl
@[simp] theorem setMode_breath (s : State) (m : BitVec 8) : (s.setMode m).breath = s.breath := rfl
@[simp] theorem setMode_chasePos (s : State) (m : BitVec 8) : (s.setMode m).chasePos = s.chasePos := rfl
@[simp] theorem setMode_pulse (s : State) (m : BitVec 8) : (s.setMode m).pulse = s.pulse := rfl
@[simp] theorem setMode_cycLast (s : State) (m : BitVec 8) : (s.setMode m).cycLast = s.cycLast := rfl
@[simp] theorem setMode_cycHue (s : State) (m : BitVec 8) : (s.setMode m).cycHue = s.cycHue := rfl
@[simp] theorem setMode_fb (s : State) (m : BitVec 8) : (s.setMode m).fb = s.fb := rfl
@[simp] theorem setMode_bus (s : State) (m : BitVec 8) : (s.setMode m).bus = s.bus := rfl
@[simp] theorem setMode_reply (s : State) (m : BitVec 8) : (s.setMode m).reply = s.reply := rfl
@[simp] theorem setMode_status (s : State) (m : BitVec 8) : (s.setMode m).status = s.status := rfl
@[simp] theorem setMode_latch (s : State) (m : BitVec 8) : (s.setMode m).latch = s.latch := rfl
@[simp] theorem setMode_strip (s : State) (m : BitVec 8) : (s.setMode m).strip = s.strip := rfl
@[simp] theorem setMode_inputs (s : State) (m : BitVec 8) : (s.setMode m).inputs = s.inputs := rfl
@[simp] theorem setMode_now (s : State) (m : BitVec 8) : (s.setMode m).now = s.now := rfl
@[simp] theorem setMode_wasReset (s : State) (m : BitVec 8) : (s.setMode m).wasReset = s.wasReset := rfl
@[simp] theorem setMode_draws (s : State) (m : BitVec 8) : (s.setMode m).draws = s.draws := rfl

/-! `setBase` -/

@[simp] theorem setBase_mode (s : State) (px : Pixel) : (s.setBase px).mode = s.mode := rfl
@[simp] theorem setBase_base (s : State) (px : Pixel) : (s.setBase px).base = px := rfl
@[simp] theorem setBase_music (s : State) (px : Pixel) : (s.setBase px).music = s.music := rfl
@[simp] theorem setBase_bright (s : State) (px : Pixel) : (s.setBase px).bright = s.bright := rfl
@[simp] theorem setBase_conn (s : State) (px : Pixel) : (s.setBase px).conn = s.conn := rfl
@[simp] theorem setBase_hue (s : State) (px : Pixel) : (s.setBase px).hue = s.hue := rfl
@[simp] theorem setBase_breath (s : State) (px : Pixel) : (s.setBase px).breath = s.breath := rfl
@[simp] theorem setBase_chasePos (s : State) (px : Pixel) : (s.setBase px).chasePos = s.chasePos := rfl
@[simp] theorem setBase_pulse (s : State) (px : Pixel) : (s.setBase px).pulse = s.pulse := rfl
@[simp] theorem setBase_cycLast (s : State) (px : Pixel) : (s.setBase px).cycLast = s.cycLast := rfl
@[simp] theorem setBase_cycHue (s : State) (px : Pixel) : (s.setBase px).cycHue = s.cycHue := rfl
@[simp] theorem setBase_fb (s : State) (px : Pixel) : (s.setBase px).fb = s.fb := rfl
@[simp] theorem setBase_bus (s : State) (px : Pixel) : (s.setBase px).bus = s.bus := rfl
@[simp] theorem setBase_reply (s : State) (px : Pixel) : (s.setBase px).reply = s.reply := rfl
@[simp] theorem setBase_status (s : State) (px : Pixel) : (s.setBase px).status = s.status := rfl
@[simp] theorem setBase_latch (s : State) (px : Pixel) : (s.setBase px).latch = s.latch := rfl
@[simp] theorem setBase_strip (s : State) (px : Pixel) : (s.setBase px).strip = s.strip := rfl
@[simp] theorem setBase_inputs (s : State) (px : Pixel) : (s.setBase px).inputs = s.inputs := rfl
@[simp] theorem setBase_now (s : State) (px : Pixel) : (s.setBase px).now = s.now := rfl
@[simp] theorem setBase_wasReset (s : State) (px : Pixel) : (s.setBase px).wasReset = s.wasReset := rfl
@[simp] theorem setBase_draws (s : State) (px : Pixel) : (s.setBase px).draws = s.draws := rfl

/-! `setMusic` -/

@[simp] theorem setMusic_mode (s : State) (v : BitVec 8) : (s.setMusic v).mode = s.mode := rfl
@[simp] theorem setMusic_base (s : State) (v : BitVec 8) : (s.setMusic v).base = s.base := rfl
@[simp] theorem setMusic_music (s : State) (v : BitVec 8) : (s.setMusic v).music = v := rfl
@[simp] theorem setMusic_bright (s : State) (v : BitVec 8) : (s.setMusic v).bright = s.bright := rfl
@[simp] theorem setMusic_conn (s : State) (v : BitVec 8) : (s.setMusic v).conn = s.conn := rfl
@[simp] theorem setMusic_hue (s : State) (v : BitVec 8) : (s.setMusic v).hue = s.hue := rfl
@[simp] theorem setMusic_breath (s : State) (v : BitVec 8) : (s.setMusic v).breath = s.breath := rfl
@[simp] theorem setMusic_chasePos (s : State) (v : BitVec 8) : (s.setMusic v).chasePos = s.chasePos := rfl
@[simp] theorem setMusic_pulse (s : State) (v : BitVec 8) : (s.setMusic v).pulse = s.pulse := rfl
@[simp] theorem setMusic_cycLast (s : State) (v : BitVec 8) : (s.setMusic v).cycLast = s.cycLast := rfl
@[simp] theorem setMusic_cycHue (s : State) (v : BitVec 8) : (s.setMusic v).cycHue = s.cycHue := rfl
@[simp] theorem setMusic_fb (s : State) (v : BitVec 8) : (s.setMusic v).fb = s.fb := rfl
@[simp] theorem setMusic_bus (s : State) (v : BitVec 8) : (s.setMusic v).bus = s.bus := rfl
@[simp] theorem setMusic_reply (s : State) (v : BitVec 8) : (s.setMusic v).reply = s.reply := rfl
@[simp] theorem setMusic_status (s : State) (v : BitVec 8) : (s.setMusic v).status = s.status := rfl
@[simp] theorem setMusic_latch (s : State) (v : BitVec 8) : (s.setMusic v).latch = s.latch := rfl
@[simp] theorem setMusic_strip (s : State) (v : BitVec 8) : (s.setMusic v).strip = s.strip := rfl
@[simp] theorem setMusic_inputs (s : State) (v : BitVec 8) : (s.setMusic v).inputs = s.inputs := rfl
@[simp] theorem setMusic_now (s : State) (v : BitVec 8) : (s.setMusic v).now = s.now := rfl
@[simp] theorem setMusic_wasReset (s : State) (v : BitVec 8) : (s.setMusic v).wasReset = s.wasReset := rfl
@[simp] theorem setMusic_draws (s : State) (v : BitVec 8) : (s.setMusic v).draws = s.draws := rfl

/-! `setBright` -/

@[simp] theorem setBright_mode (s : State) (v : BitVec 7) : (s.setBright v).mode = s.mode := rfl
@[simp] theorem setBright_base (s : State) (v : BitVec 7) : (s.setBright v).base = s.base := rfl
@[simp] theorem setBright_music (s : State) (v : BitVec 7) : (s.setBright v).music = s.music := rfl
@[simp] theorem setBright_bright (s : State) (v : BitVec 7) : (s.setBright v).bright = v := rfl
@[simp] theorem setBright_conn (s : State) (v : BitVec 7) : (s.setBright v).conn = s.conn := rfl
@[simp] theorem setBright_hue (s : State) (v : BitVec 7) : (s.setBright v).hue = s.hue := rfl
@[simp] theorem setBright_breath (s : State) (v : BitVec 7) : (s.setBright v).breath = s.breath := rfl
@[simp] theorem setBright_chasePos (s : State) (v : BitVec 7) : (s.setBright v).chasePos = s.chasePos := rfl
@[simp] theorem setBright_pulse (s : State) (v : BitVec 7) : (s.setBright v).pulse = s.pulse := rfl
@[simp] theorem setBright_cycLast (s : State) (v : BitVec 7) : (s.setBright v).cycLast = s.cycLast := rfl
@[simp] theorem setBright_cycHue (s : State) (v : BitVec 7) : (s.setBright v).cycHue = s.cycHue := rfl
@[simp] theorem setBright_fb (s : State) (v : BitVec 7) : (s.setBright v).fb = s.fb := rfl
@[simp] theorem setBright_bus (s : State) (v : BitVec 7) : (s.setBright v).bus = s.bus := rfl
@[simp] theorem setBright_reply (s : State) (v : BitVec 7) : (s.setBright v).reply = s.reply := rfl
@[simp] theorem setBright_status (s : State) (v : BitVec 7) : (s.setBright v).status = s.status := rfl
@[simp] theorem setBright_latch (s : State) (v : BitVec 7) : (s.setBright v).latch = s.latch := rfl
@[simp] theorem setBright_strip (s : State) (v : BitVec 7) : (s.setBright v).strip = s.strip := rfl
@[simp] theorem setBright_inputs (s : State) (v : BitVec 7) : (s.setBright v).inputs = s.inputs := rfl
@[simp] theorem setBright_now (s : State) (v : BitVec 7) : (s.setBright v).now = s.now := rfl
@[simp] theorem setBright_wasReset (s : State) (v : BitVec 7) : (s.setBright v).wasReset = s.wasReset := rfl
@[simp] theorem setBright_draws (s : State) (v : BitVec 7) : (s.setBright v).draws = s.draws := rfl

/-! `setConn` -/

@[simp] theorem setConn_mode (s : State) (c : Bool) : (s.setConn c).mode = s.mode := rfl
@[simp] theorem setConn_base (s : State) (c : Bool) : (s.setConn c).base = s.base := rfl
@[simp] theorem setConn_music (s : State) (c : Bool) : (s.setConn c).music = s.music := rfl
@[simp] theorem setConn_bright (s : State) (c : Bool) : (s.setConn c).bright = s.bright := rfl
@[simp] theorem setConn_conn (s : State) (c : Bool) : (s.setConn c).conn = c := rfl
@[simp] theorem setConn_hue (s : State) (c : Bool) : (s.setConn c).hue = s.hue := rfl
@[simp] theorem setConn_breath (s : State) (c : Bool) : (s.setConn c).breath = s.breath := rfl
@[simp] theorem setConn_chasePos (s : State) (c : Bool) : (s.setConn c).chasePos = s.chasePos := rfl
@[simp] theorem setConn_pulse (s : State) (c : Bool) : (s.setConn c).pulse = s.pulse := rfl
@[simp] theorem setConn_cycLast (s : State) (c : Bool) : (s.setConn c).cycLast = s.cycLast := rfl
@[simp] theorem setConn_cycHue (s : State) (c : Bool) : (s.setConn c).cycHue = s.cycHue := rfl
@[simp] theorem setConn_fb (s : State) (c : Bool) : (s.setConn c).fb = s.fb := rfl
@[simp] theorem setConn_bus (s : State) (c : Bool) : (s.setConn c).bus = s.bus := rfl
@[simp] theorem setConn_reply (s : State) (c : Bool) : (s.setConn c).reply = s.reply := rfl
@[simp] theorem setConn_status (s : State) (c : Bool) : (s.setConn c).status = s.status := rfl
@[simp] theorem setConn_latch (s : State) (c : Bool) : (s.setConn c).latch = s.latch := rfl
@[simp] theorem setConn_strip (s : State) (c : Bool) : (s.setConn c).strip = s.strip := rfl
@[simp] theorem setConn_inputs (s : State) (c : Bool) : (s.setConn c).inputs = s.inputs := rfl
@[simp] theorem setConn_now (s : State) (c : Bool) : (s.setConn c).now = s.now := rfl
@[simp] theorem setConn_wasReset (s : State) (c : Bool) : (s.setConn c).wasReset = s.wasReset := rfl
@[simp] theorem setConn_draws (s : State) (c : Bool) : (s.setConn c).draws = s.draws := rfl

/-! `setHue` -/

@[simp] theorem setHue_mode (s : State) (a : Nat) : (s.setHue a).mode = s.mode := rfl
@[simp] theorem setHue_base (s : State) (a : Nat) : (s.setHue a).base = s.base := rfl
@[simp] theorem setHue_music (s : State) (a : Nat) : (s.setHue a).music = s.music := rfl
@[simp] theorem setHue_bright (s : State) (a : Nat) : (s.setHue a).bright = s.bright := rfl
@[simp] theorem setHue_conn (s : State) (a : Nat) : (s.setHue a).conn = s.conn := rfl
@[simp] theorem setHue_hue (s : State) (a : Nat) : (s.setHue a).hue = a := rfl
@[simp] theorem setHue_breath (s : State) (a : Nat) : (s.setHue a).breath = s.breath := rfl
@[simp] theorem setHue_chasePos (s : State) (a : Nat) : (s.setHue a).chasePos = s.chasePos := rfl
@[simp] theorem setHue_pulse (s : State) (a : Nat) : (s.setHue a).pulse = s.pulse := rfl
@[simp] theorem setHue_cycLast (s : State) (a : Nat) : (s.setHue a).cycLast = s.cycLast := rfl
@[simp] theorem setHue_cycHue (s : State) (a : Nat) : (s.setHue a).cycHue = s.cycHue := rfl
@[simp] theorem setHue_fb (s : State) (a : Nat) : (s.setHue a).fb = s.fb := rfl
@[simp] theorem setHue_bus (s : State) (a : Nat) : (s.setHue a).bus = s.bus := rfl
@[simp] theorem setHue_reply (s : State) (a : Nat) : (s.setHue a).reply = s.reply := rfl
@[simp] theorem setHue_status (s : State) (a : Nat) : (s.setHue a).status = s.status := rfl
@[simp] theorem setHue_latch (s : State) (a : Nat) : (s.setHue a).latch = s.latch := rfl
@[simp] theorem setHue_strip (s : State) (a : Nat) : (s.setHue a).strip = s.strip := rfl
@[simp] theorem setHue_inputs (s : State) (a : Nat) : (s.setHue a).inputs = s.inputs := rfl
@[simp] theorem setHue_now (s : State) (a : Nat) : (s.setHue a).now = s.now := rfl
@[simp] theorem setHue_wasReset (s : State) (a : Nat) : (s.setHue a).wasReset = s.wasReset := rfl
@[simp] theorem setHue_draws (s : State) (a : Nat) : (s.setHue a).draws = s.draws := rfl

/-! `setBreath` -/

@[simp] theorem setBreath_mode (s : State) (a : Nat) : (s.setBreath a).mode = s.mode := rfl
@[simp] theorem setBreath_base (s : State) (a : Nat) : (s.setBreath a).base = s.base := rfl
@[simp] theorem setBreath_music (s : State) (a : Nat) : (s.setBreath a).music = s.music := rfl
@[simp] theorem setBreath_bright (s : State) (a : Nat) : (s.setBreath a).bright = s.bright := rfl
@[simp] theorem setBreath_conn (s : State) (a : Nat) : (s.setBreath a).conn = s.conn := rfl
@[simp] theorem setBreath_hue (s : State) (a : Nat) : (s.setBreath a).hue = s.hue := rfl
@[simp] theorem setBreath_breath (s : State) (a : Nat) : (s.setBreath a).breath = a := rfl
@[simp] theorem setBreath_chasePos (s : State) (a : Nat) : (s.setBreath a).chasePos = s.chasePos := rfl
@[simp] theorem setBreath_pulse (s : State) (a : Nat) : (s.setBreath a).pulse = s.pulse := rfl
@[simp] theorem setBreath_cycLast (s : State) (a : Nat) : (s.setBreath a).cycLast = s.cycLast := rfl
@[simp] theorem setBreath_cycHue (s : State) (a : Nat) : (s.setBreath a).cycHue = s.cycHue := rfl
@[simp] theorem setBreath_fb (s : State) (a : Nat) : (s.setBreath a).fb = s.fb := rfl
@[simp] theorem setBreath_bus (s : State) (a : Nat) : (s.setBreath a).bus = s.bus := rfl
@[simp] theorem setBreath_reply (s : State) (a : Nat) : (s.setBreath a).reply = s.reply := rfl
@[simp] theorem setBreath_status (s : State) (a : Nat) : (s.setBreath a).status = s.status := rfl
@[simp] theorem setBreath_latch (s : State) (a : Nat) : (s.setBreath a).latch = s.latch := rfl
@[simp] theorem setBreath_strip (s : State) (a : Nat) : (s.setBreath a).strip = s.strip := rfl
@[simp] theorem setBreath_inputs (s : State) (a : Nat) : (s.setBreath a).inputs = s.inputs := rfl
@[simp] theorem setBreath_now (s : State) (a : Nat) : (s.setBreath a).now = s.now := rfl
@[simp] theorem setBreath_wasReset (s : State) (a : Nat) : (s.setBreath a).wasReset = s.wasReset := rfl
@[simp] theorem setBreath_draws (s : State) (a : Nat) : (s.setBreath a).draws = s.draws := rfl

/-! `setChasePos` -/

@[simp] theorem setChasePos_mode (s : State) (i : Nat) : (s.setChasePos i).mode = s.mode := rfl
@[simp] theorem setChasePos_base (s : State) (i : Nat) : (s.setChasePos i).base = s.base := rfl
@[simp] theorem setChasePos_music (s : State) (i : Nat) : (s.setChasePos i).music = s.music := rfl
@[simp] theorem setChasePos_bright (s : State) (i : Nat) : (s.setChasePos i).bright = s.bright := rfl
@[simp] theorem setChasePos_conn (s : State) (i : Nat) : (s.setChasePos i).conn = s.conn := rfl
@[simp] theorem setChasePos_hue (s : State) (i : Nat) : (s.setChasePos i).hue = s.hue := rfl
@[simp] theorem setChasePos_breath (s : State) (i : Nat) : (s.setChasePos i).breath = s.breath := rfl
@[simp] theorem setChasePos_chasePos (s : State) (i : Nat) : (s.setChasePos i).chasePos = i := rfl
@[simp] theorem setChasePos_pulse (s : State) (i : Nat) : (s.setChasePos i).pulse = s.pulse := rfl
@[simp] theorem setChasePos_cycLast (s : State) (i : Nat) : (s.setChasePos i).cycLast = s.cycLast := rfl
@[simp] theorem setChasePos_cycHue (s : State) (i : Nat) : (s.setChasePos i).cycHue = s.cycHue := rfl
@[simp] theorem setChasePos_fb (s : State) (i : Nat) : (s.setChasePos i).fb = s.fb := rfl
@[simp] theorem setChasePos_bus (s : State) (i : Nat) : (s.setChasePos i).bus = s.bus := rfl
@[simp] theorem setChasePos_reply (s : State) (i : Nat) : (s.setChasePos i).reply = s.reply := rfl
@[simp] theorem setChasePos_status (s : State) (i : Nat) : (s.setChasePos i).status = s.status := rfl
@[simp] theorem setChasePos_latch (s : State) (i : Nat) : (s.setChasePos i).latch = s.latch := rfl
@[simp] theorem setChasePos_strip (s : State) (i : Nat) : (s.setChasePos i).strip = s.strip := rfl
@[simp] theorem setChasePos_inputs (s : State) (i : Nat) : (s.setChasePos i).inputs = s.inputs := rfl
@[simp] theorem setChasePos_now (s : State) (i : Nat) : (s.setChasePos i).now = s.now := rfl
@[simp] theorem setChasePos_wasReset (s : State) (i : Nat) : (s.setChasePos i).wasReset = s.wasReset := rfl
@[simp] theorem setChasePos_draws (s : State) (i : Nat) : (s.setChasePos i).draws = s.draws := rfl

/-! `setPulse` -/

@[simp] theorem setPulse_mode (s : State) (a : Nat) : (s.setPulse a).mode = s.mode := rfl
@[simp] theorem setPulse_base (s : State) (a : Nat) : (s.setPulse a).base = s.base := rfl
@[simp] theorem setPulse_music (s : State) (a : Nat) : (s.setPulse a).music = s.music := rfl
@[simp] theorem setPulse_bright (s : State) (a : Nat) : (s.setPulse a).bright = s.bright := rfl
@[simp] theorem setPulse_conn (s : State) (a : Nat) : (s.setPulse a).conn = s.conn := rfl
@[simp] theorem setPulse_hue (s : State) (a : Nat) : (s.setPulse a).hue = s.hue := rfl
@[simp] theorem setPulse_breath (s : State) (a : Nat) : (s.setPulse a).breath = s.breath := rfl
@[simp] theorem setPulse_chasePos (s : State) (a : Nat) : (s.setPulse a).chasePos = s.chasePos := rfl
@[simp] theorem setPulse_pulse (s : State) (a : Nat) : (s.setPulse a).pulse = a := rfl
@[simp] theorem setPulse_cycLast (s : State) (a : Nat) : (s.setPulse a).cycLast = s.cycLast := rfl
@[simp] theorem setPulse_cycHue (s : State) (a : Nat) : (s.setPulse a).cycHue = s.cycHue := rfl
@[simp] theorem setPulse_fb (s : State) (a : Nat) : (s.setPulse a).fb = s.fb := rfl
@[simp] theorem setPulse_bus (s : State) (a : Nat) : (s.setPulse a).bus = s.bus := rfl
@[simp] theorem setPulse_reply (s : State) (a : Nat) : (s.setPulse a).reply = s.reply := rfl
@[simp] theorem setPulse_status (s : State) (a : Nat) : (s.setPulse a).status = s.status := rfl
@[simp] theorem setPulse_latch (s : State) (a : Nat) : (s.setPulse a).latch = s.latch := rfl
@[simp] theorem setPulse_strip (s : State) (a : Nat) : (s.setPulse a).strip = s.strip := rfl
@[simp] theorem setPulse_inputs (s : State) (a : Nat) : (s.setPulse a).inputs = s.inputs := rfl
@[simp] theorem setPulse_now (s : State) (a : Nat) : (s.setPulse a).now = s.now := rfl
@[simp] theorem setPulse_wasReset (s : State) (a : Nat) : (s.setPulse a).wasReset = s.wasReset := rfl
@[simp] theorem setPulse_draws (s : State) (a : Nat) : (s.setPulse a).draws = s.draws := rfl

/-! `setCycLast` -/

@[simp] theorem setCycLast_mode (s : State) (t : Nat) : (s.setCycLast t).mode = s.mode := rfl
@[simp] theorem setCycLast_base (s : State) (t : Nat) : (s.setCycLast t).base = s.base := rfl
@[simp] theorem setCycLast_music (s : State) (t : Nat) : (s.setCycLast t).music = s.music := rfl
@[simp] theorem setCycLast_bright (s : State) (t : Nat) : (s.setCycLast t).bright = s.bright := rfl
@[simp] theorem setCycLast_conn (s : State) (t : Nat) : (s.setCycLast t).conn = s.conn := rfl
@[simp] theorem setCycLast_hue (s : State) (t : Nat) : (s.setCycLast t).hue = s.hue := rfl
@[simp] theorem setCycLast_breath (s : State) (t : Nat) : (s.setCycLast t).breath = s.breath := rfl
@[simp] theorem setCycLast_chasePos (s : State) (t : Nat) : (s.setCycLast t).chasePos = s.chasePos := rfl
@[simp] theorem setCycLast_pulse (s : State) (t : Nat) : (s.setCycLast t).pulse = s.pulse := rfl
@[simp] theorem setCycLast_cycLast (s : State) (t : Nat) : (s.setCycLast t).cycLast = t := rfl
@[simp] theorem setCycLast_cycHue (s : State) (t : Nat) : (s.setCycLast t).cycHue = s.cycHue := rfl
@[simp] theorem setCycLast_fb (s : State) (t : Nat) : (s.setCycLast t).fb = s.fb := rfl
@[simp] theorem setCycLast_bus (s : State) (t : Nat) : (s.setCycLast t).bus = s.bus := rfl
@[simp] theorem setCycLast_reply (s : State) (t : Nat) : (s.setCycLast t).reply = s.reply := rfl
@[simp] theorem setCycLast_status (s : State) (t : Nat) : (s.setCycLast t).status = s.status := rfl
@[simp] theorem setCycLast_latch (s : State) (t : Nat) : (s.setCycLast t).latch = s.latch := rfl
@[simp] theorem setCycLast_strip (s : State) (t : Nat) : (s.setCycLast t).strip = s.strip := rfl
@[simp] theorem setCycLast_inputs (s : State) (t : Nat) : (s.setCycLast t).inputs = s.inputs := rfl
@[simp] theorem setCycLast_now (s : State) (t : Nat) : (s.setCycLast t).now = s.now := rfl
@[simp] theorem setCycLast_wasReset (s : State) (t : Nat) : (s.setCycLast t).wasReset = s.wasReset := rfl
@[simp] theorem setCycLast_draws (s : State) (t : Nat) : (s.setCycLast t).draws = s.draws := rfl

/-! `setCycHue` -/

@[simp] theorem setCycHue_mode (s : State) (a : Nat) : (s.setCycHue a).mode = s.mode := rfl
@[simp] theorem setCycHue_base (s : State) (a : Nat) : (s.setCycHue a).base = s.base := rfl
@[simp] theorem setCycHue_music (s : State) (a : Nat) : (s.setCycHue a).music = s.music := rfl
@[simp] theorem setCycHue_bright (s : State) (a : Nat) : (s.setCycHue a).bright = s.bright := rfl
@[simp] theorem setCycHue_conn (s : State) (a : Nat) : (s.setCycHue a).conn = s.conn := rfl
@[simp] theorem setCycHue_hue (s : State) (a : Nat) : (s.setCycHue a).hue = s.hue := rfl
@[simp] theorem setCycHue_breath (s : State) (a : Nat) : (s.setCycHue a).breath = s.breath := rfl
@[simp] theorem setCycHue_chasePos (s : State) (a : Nat) : (s.setCycHue a).chasePos = s.chasePos := rfl
@[simp] theorem setCycHue_pulse (s : State) (a : Nat) : (s.setCycHue a).pulse = s.pulse := rfl
@[simp] theorem setCycHue_cycLast (s : State) (a : Nat) : (s.setCycHue a).cycLast = s.cycLast := rfl
@[simp] theorem setCycHue_cycHue (s : State) (a : Nat) : (s.setCycHue a).cycHue = a := rfl
@[simp] theorem setCycHue_fb (s : State) (a : Nat) : (s.setCycHue a).fb = s.fb := rfl
@[simp] theorem setCycHue_bus (s : State) (a : Nat) : (s.setCycHue a).bus = s.bus := rfl
@[simp] theorem setCycHue_reply (s : State) (a : Nat) : (s.setCycHue a).reply = s.reply := rfl
@[simp] theorem setCycHue_status (s : State) (a : Nat) : (s.setCycHue a).status = s.status := rfl
@[simp] theorem setCycHue_latch (s : State) (a : Nat) : (s.setCycHue a).latch = s.latch := rfl
@[simp] theorem setCycHue_strip (s : State) (a : Nat) : (s.setCycHue a).strip = s.strip := rfl
@[simp] theorem setCycHue_inputs (s : State) (a : Nat) : (s.setCycHue a).inputs = s.inputs := rfl
@[simp] theorem setCycHue_now (s : State) (a : Nat) : (s.setCycHue a).now = s.now := rfl
@[simp] theorem setCycHue_wasReset (s : State) (a : Nat) : (s.setCycHue a).wasReset = s.wasReset := rfl
@[simp] theorem setCycHue_draws (s : State) (a : Nat) : (s.setCycHue a).draws = s.draws := rfl

/-! `setFb` -/

@[simp] theorem setFb_mode (s : State) (f : List Pixel) : (s.setFb f).mode = s.mode := rfl
@[simp] theorem setFb_base (s : State) (f : List Pixel) : (s.setFb f).base = s.base := rfl
@[simp] theorem setFb_music (s : State) (f : List Pixel) : (s.setFb f).music = s.music := rfl
@[simp] theorem setFb_bright (s : State) (f : List Pixel) : (s.setFb f).bright = s.bright := rfl
@[simp] theorem setFb_conn (s : State) (f : List Pixel) : (s.setFb f).conn = s.conn := rfl
@[simp] theorem setFb_hue (s : State) (f : List Pixel) : (s.setFb f).hue = s.hue := rfl
@[simp] theorem setFb_breath (s : State) (f : List Pixel) : (s.setFb f).breath = s.breath := rfl
@[simp] theorem setFb_chasePos (s : State) (f : List Pixel) : (s.setFb f).chasePos = s.chasePos := rfl
@[simp] theorem setFb_pulse (s : State) (f : List Pixel) : (s.setFb f).pulse = s.pulse := rfl
@[simp] theorem setFb_cycLast (s : State) (f : List Pixel) : (s.setFb f).cycLast = s.cycLast := rfl
@[simp] theorem setFb_cycHue (s : State) (f : List Pixel) : (s.setFb f).cycHue = s.cycHue := rfl
@[simp] theorem setFb_fb (s : State) (f : List Pixel) : (s.setFb f).fb = f := rfl
@[simp] theorem setFb_bus (s : State) (f : List Pixel) : (s.setFb f).bus = s.bus := rfl
@[simp] theorem setFb_reply (s : State) (f : List Pixel) : (s.setFb f).reply = s.reply := rfl
@[simp] theorem setFb_status (s : State) (f : List Pixel) : (s.setFb f).status = s.status := rfl
@[simp] theorem setFb_latch (s : State) (f : List Pixel) : (s.setFb f).latch = s.latch := rfl
@[simp] theorem setFb_strip (s : State) (f : List Pixel) : (s.setFb f).strip = s.strip := rfl
@[simp] theorem setFb_inputs (s : State) (f : List Pixel) : (s.setFb f).inputs = s.inputs := rfl
@[simp] theorem setFb_now (s : State) (f : List Pixel) : (s.setFb f).now = s.now := rfl
@[simp] theorem setFb_wasReset (s : State) (f : List Pixel) : (s.setFb f).wasReset = s.wasReset := rfl
@[simp] theorem setFb_draws (s : State) (f : List Pixel) : (s.setFb f).draws = s.draws := rfl

/-! `pushFrame` -/

@[simp] theorem pushFrame_mode (s : State) (bits : List Bool) (gap : Nat) : (s.pushFrame bits gap).mode = s.mode := rfl
@[simp] theorem pushFrame_base (s : State) (bits : List Bool) (gap : Nat) : (s.pushFrame bits gap).base = s.base := rfl
@[simp] theorem pushFrame_music (s : State) (bits : List Bool) (gap : Nat) : (s.pushFrame bits gap).music = s.music := rfl
@[simp] theorem pushFrame_bright (s : State) (bits : List Bool) (gap : Nat) : (s.pushFrame bits gap).bright = s.bright := rfl
@[simp] theorem pushFrame_conn (s : State) (bits : List Bool) (gap : Nat) : (s.pushFrame bits gap).conn = s.conn := rfl
@[simp] theorem pushFrame_hue (s : State) (bits : List Bool) (gap : Nat) : (s.pushFrame bits gap).hue = s.hue := rfl
@[simp] theorem pushFrame_breath (s : State) (bits : List Bool) (gap : Nat) : (s.pushFrame bits gap).breath = s.breath := rfl
@[simp] theorem pushFrame_chasePos (s : State) (bits : List Bool) (gap : Nat) : (s.pushFrame bits gap).chasePos = s.chasePos := rfl
@[simp] theorem pushFrame_pulse (s : State) (bits : List Bool) (gap : Nat) : (s.pushFrame bits gap).pulse = s.pulse := rfl
@[simp] theorem pushFrame_cycLast (s : State) (bits : List Bool) (gap : Nat) : (s.pushFrame bits gap).cycLast = s.cycLast := rfl
@[simp] theorem pushFrame_cycHue (s : State) (bits : List Bool) (gap : Nat) : (s.pushFrame bits gap).cycHue = s.cycHue := rfl
@[simp] theorem pushFrame_fb (s : State) (bits : List Bool) (gap : Nat) : (s.pushFrame bits gap).fb = s.fb := rfl
@[simp] theorem pushFrame_bus (s : State) (bits : List Bool) (gap : Nat) : (s.pushFrame bits gap).bus = s.bus ++ [⟨s.latch, bits⟩] := rfl
@[simp] theorem pushFrame_reply (s : State) (bits : List Bool) (gap : Nat) : (s.pushFrame bits gap).reply = s.reply := rfl
@[simp] theorem pushFrame_status (s : State) (bits : List Bool) (gap : Nat) : (s.pushFrame bits gap).status = s.status := rfl
@[simp] theorem pushFrame_latch (s : State) (bits : List Bool) (gap : Nat) : (s.pushFrame bits gap).latch = gap := rfl
@[simp] theorem pushFrame_strip (s : State) (bits : List Bool) (gap : Nat) : (s.pushFrame bits gap).strip = bits := rfl
@[simp] theorem pushFrame_inputs (s : State) (bits : List Bool) (gap : Nat) : (s.pushFrame bits gap).inputs = s.inputs := rfl
@[simp] theorem pushFrame_now (s : State) (bits : List Bool) (gap : Nat) : (s.pushFrame bits gap).now = s.now := rfl
@[simp] theorem pushFrame_wasReset (s : State) (bits : List Bool) (gap : Nat) : (s.pushFrame bits gap).wasReset = s.wasReset := rfl
@[simp] theorem pushFrame_draws (s : State) (bits : List Bool) (gap : Nat) : (s.pushFrame bits gap).draws = s.draws := rfl

/-! `pushReply` -/

@[simp] theorem pushReply_mode (s : State) (msg : List Byte) : (s.pushReply msg).mode = s.mode := rfl
@[simp] theorem pushReply_base (s : State) (msg : List Byte) : (s.pushReply msg).base = s.base := rfl
@[simp] theorem pushReply_music (s : State) (msg : List Byte) : (s.pushReply msg).music = s.music := rfl
@[simp] theorem pushReply_bright (s : State) (msg : List Byte) : (s.pushReply msg).bright = s.bright := rfl
@[simp] theorem pushReply_conn (s : State) (msg : List Byte) : (s.pushReply msg).conn = s.conn := rfl
@[simp] theorem pushReply_hue (s : State) (msg : List Byte) : (s.pushReply msg).hue = s.hue := rfl
@[simp] theorem pushReply_breath (s : State) (msg : List Byte) : (s.pushReply msg).breath = s.breath := rfl
@[simp] theorem pushReply_chasePos (s : State) (msg : List Byte) : (s.pushReply msg).chasePos = s.chasePos := rfl
@[simp] theorem pushReply_pulse (s : State) (msg : List Byte) : (s.pushReply msg).pulse = s.pulse := rfl
@[simp] theorem pushReply_cycLast (s : State) (msg : List Byte) : (s.pushReply msg).cycLast = s.cycLast := rfl
@[simp] theorem pushReply_cycHue (s : State) (msg : List Byte) : (s.pushReply msg).cycHue = s.cycHue := rfl
@[simp] theorem pushReply_fb (s : State) (msg : List Byte) : (s.pushReply msg).fb = s.fb := rfl
@[simp] theorem pushReply_bus (s : State) (msg : List Byte) : (s.pushReply msg).bus = s.bus := rfl
@[simp] theorem pushReply_reply (s : State) (msg : List Byte) : (s.pushReply msg).reply = s.reply ++ [msg] := rfl
@[simp] theorem pushReply_status (s : State) (msg : List Byte) : (s.pushReply msg).status = s.status := rfl
@[simp] theorem pushReply_latch (s : State) (msg : List Byte) : (s.pushReply msg).latch = s.latch := rfl
@[simp] theorem pushReply_strip (s : State) (msg : List Byte) : (s.pushReply msg).strip = s.strip := rfl
@[simp] theorem pushReply_inputs (s : State) (msg : List Byte) : (s.pushReply msg).inputs = s.inputs := rfl
@[simp] theorem pushReply_now (s : State) (msg : List Byte) : (s.pushReply msg).now = s.now := rfl
@[simp] theorem pushReply_wasReset (s : State) (msg : List Byte) : (s.pushReply msg).wasReset = s.wasReset := rfl
@[simp] theorem pushReply_draws (s : State) (msg : List Byte) : (s.pushReply msg).draws = s.draws := rfl

/-! `pushStatus` -/

@[simp] theorem pushStatus_mode (s : State) (r : StatusRecord) : (s.pushStatus r).mode = s.mode := rfl
@[simp] theorem pushStatus_base (s : State) (r : StatusRecord) : (s.pushStatus r).base = s.base := rfl
@[simp] theorem pushStatus_music (s : State) (r : StatusRecord) : (s.pushStatus r).music = s.music := rfl
@[simp] theorem pushStatus_bright (s : State) (r : StatusRecord) : (s.pushStatus r).bright = s.bright := rfl
@[simp] theorem pushStatus_conn (s : State) (r : StatusRecord) : (s.pushStatus r).conn = s.conn := rfl
@[simp] theorem pushStatus_hue (s : State) (r : StatusRecord) : (s.pushStatus r).hue = s.hue := rfl
@[simp] theorem pushStatus_breath (s : State) (r : StatusRecord) : (s.pushStatus r).breath = s.breath := rfl
@[simp] theorem pushStatus_chasePos (s : State) (r : StatusRecord) : (s.pushStatus r).chasePos = s.chasePos := rfl
@[simp] theorem pushStatus_pulse (s : State) (r : StatusRecord) : (s.pushStatus r).pulse = s.pulse := rfl
@[simp] theorem pushStatus_cycLast (s : State) (r : StatusRecord) : (s.pushStatus r).cycLast = s.cycLast := rfl
@[simp] theorem pushStatus_cycHue (s : State) (r : StatusRecord) : (s.pushStatus r).cycHue = s.cycHue := rfl
@[simp] theorem pushStatus_fb (s : State) (r : StatusRecord) : (s.pushStatus r).fb = s.fb := rfl
@[simp] theorem pushStatus_bus (s : State) (r : StatusRecord) : (s.pushStatus r).bus = s.bus := rfl
@[simp] theorem pushStatus_reply (s : State) (r : StatusRecord) : (s.pushStatus r).reply = s.reply := rfl
@[simp] theorem pushStatus_status (s : State) (r : StatusRecord) : (s.pushStatus r).status = s.status ++ [r] := rfl
@[simp] theorem pushStatus_latch (s : State) (r : StatusRecord) : (s.pushStatus r).latch = s.latch := rfl
@[simp] theorem pushStatus_strip (s : State) (r : StatusRecord) : (s.pushStatus r).strip = s.strip := rfl
@[simp] theorem pushStatus_inputs (s : State) (r : StatusRecord) : (s.pushStatus r).inputs = s.inputs := rfl
@[simp] theorem pushStatus_now (s : State) (r : StatusRecord) : (s.pushStatus r).now = s.now := rfl
@[simp] theorem pushStatus_wasReset (s : State) (r : StatusRecord) : (s.pushStatus r).wasReset = s.wasReset := rfl
@[simp] theorem pushStatus_draws (s : State) (r : StatusRecord) : (s.pushStatus r).draws = s.draws := rfl

/-! `takeInput` -/

@[simp] theorem takeInput_mode (s : State) (rest : List Event) (t : Nat) : (s.takeInput rest t).mode = s.mode := rfl
@[simp] theorem takeInput_base (s : State) (rest : List Event) (t : Nat) : (s.takeInput rest t).base = s.base := rfl
@[simp] theorem takeInput_music (s : State) (rest : List Event) (t : Nat) : (s.takeInput rest t).music = s.music := rfl
@[simp] theorem takeInput_bright (s : State) (rest : List Event) (t : Nat) : (s.takeInput rest t).bright = s.bright := rfl
@[simp] theorem takeInput_conn (s : State) (rest : List Event) (t : Nat) : (s.takeInput rest t).conn = s.conn := rfl
@[simp] theorem takeInput_hue (s : State) (rest : List Event) (t : Nat) : (s.takeInput rest t).hue = s.hue := rfl
@[simp] theorem takeInput_breath (s : State) (rest : List Event) (t : Nat) : (s.takeInput rest t).breath = s.breath := rfl
@[simp] theorem takeInput_chasePos (s : State) (rest : List Event) (t : Nat) : (s.takeInput rest t).chasePos = s.chasePos := rfl
@[simp] theorem takeInput_pulse (s : State) (rest : List Event) (t : Nat) : (s.takeInput rest t).pulse = s.pulse := rfl
@[simp] theorem takeInput_cycLast (s : State) (rest : List Event) (t : Nat) : (s.takeInput rest t).cycLast = s.cycLast := rfl
@[simp] theorem takeInput_cycHue (s : State) (rest : List Event) (t : Nat) : (s.takeInput rest t).cycHue = s.cycHue := rfl
@[simp] theorem takeInput_fb (s : State) (rest : List Event) (t : Nat) : (s.takeInput rest t).fb = s.fb := rfl
@[simp] theorem takeInput_bus (s : State) (rest : List Event) (t : Nat) : (s.takeInput rest t).bus = s.bus := rfl
@[simp] theorem takeInput_reply (s : State) (rest : List Event) (t : Nat) : (s.takeInput rest t).reply = s.reply := rfl
@[simp] theorem takeInput_status (s : State) (rest : List Event) (t : Nat) : (s.takeInput rest t).status = s.status := rfl
@[simp] theorem takeInput_latch (s : State) (rest : List Event) (t : Nat) : (s.takeInput rest t).latch = s.latch := rfl
@[simp] theorem takeInput_strip (s : State) (rest : List Event) (t : Nat) : (s.takeInput rest t).strip = s.strip := rfl
@[simp] theorem takeInput_inputs (s : State) (rest : List Event) (t : Nat) : (s.takeInput rest t).inputs = rest := rfl
@[simp] theorem takeInput_now (s : State) (rest : List Event) (t : Nat) : (s.takeInput rest t).now = t := rfl
@[simp] theorem takeInput_wasReset (s : State) (rest : List Event) (t : Nat) : (s.takeInput rest t).wasReset = s.wasReset := rfl
@[simp] theorem takeInput_draws (s : State) (rest : List Event) (t : Nat) : (s.takeInput rest t).draws = s.draws := rfl

/-! `countDraw` -/

@[simp] theorem countDraw_mode (s : State) : (s.countDraw).mode = s.mode := rfl
@[simp] theorem countDraw_base (s : State) : (s.countDraw).base = s.base := rfl
@[simp] theorem countDraw_music (s : State) : (s.countDraw).music = s.music := rfl
@[simp] theorem countDraw_bright (s : State) : (s.countDraw).bright = s.bright := rfl
@[simp] theorem countDraw_conn (s : State) : (s.countDraw).conn = s.conn := rfl
@[simp] theorem countDraw_hue (s : State) : (s.countDraw).hue = s.hue := rfl
@[simp] theorem countDraw_breath (s : State) : (s.countDraw).breath = s.breath := rfl
@[simp] theorem countDraw_chasePos (s : State) : (s.countDraw).chasePos = s.chasePos := rfl
@[simp] theorem countDraw_pulse (s : State) : (s.countDraw).pulse = s.pulse := rfl
@[simp] theorem countDraw_cycLast (s : State) : (s.countDraw).cycLast = s.cycLast := rfl
@[simp] theorem countDraw_cycHue (s : State) : (s.countDraw).cycHue = s.cycHue := rfl
@[simp] theorem countDraw_fb (s : State) : (s.countDraw).fb = s.fb := rfl
@[simp] theorem countDraw_bus (s : State) : (s.countDraw).bus = s.bus := rfl
@[simp] theorem countDraw_reply (s : State) : (s.countDraw).reply = s.reply := rfl
@[simp] theorem countDraw_status (s : State) : (s.countDraw).status = s.status := rfl
@[simp] theorem countDraw_latch (s : State) : (s.countDraw).latch = s.latch := rfl
@[simp] theorem countDraw_strip (s : State) : (s.countDraw).strip = s.strip := rfl
@[simp] theorem countDraw_inputs (s : State) : (s.countDraw).inputs = s.inputs := rfl
@[simp] theorem countDraw_now (s : State) : (s.countDraw).now = s.now := rfl
@[simp] theorem countDraw_wasReset (s : State) : (s.countDraw).wasReset = s.wasReset := rfl
@[simp] theorem countDraw_draws (s : State) : (s.countDraw).draws = s.draws + 1 := rfl

/-! `fill` -/

@[simp] theorem fill_mode (s : State) (p : Params) (px : Pixel) : (s.fill p px).mode = s.mode := rfl
@[simp] theorem fill_base (s : State) (p : Params) (px : Pixel) : (s.fill p px).base = s.base := rfl
@[simp] theorem fill_music (s : State) (p : Params) (px : Pixel) : (s.fill p px).music = s.music := rfl
@[simp] theorem fill_bright (s : State) (p : Params) (px : Pixel) : (s.fill p px).bright = s.bright := rfl
@[simp] theorem fill_conn (s : State) (p : Params) (px : Pixel) : (s.fill p px).conn = s.conn := rfl
@[simp] theorem fill_hue (s : State) (p : Params) (px : Pixel) : (s.fill p px).hue = s.hue := rfl
@[simp] theorem fill_breath (s : State) (p : Params) (px : Pixel) : (s.fill p px).breath = s.breath := rfl
@[simp] theorem fill_chasePos (s : State) (p : Params) (px : Pixel) : (s.fill p px).chasePos = s.chasePos := rfl
@[simp] theorem fill_pulse (s : State) (p : Params) (px : Pixel) : (s.fill p px).pulse = s.pulse := rfl
@[simp] theorem fill_cycLast (s : State) (p : Params) (px : Pixel) : (s.fill p px).cycLast = s.cycLast := rfl
@[simp] theorem fill_cycHue (s : State) (p : Params) (px : Pixel) : (s.fill p px).cycHue = s.cycHue := rfl
@[simp] theorem fill_fb (s : State) (p : Params) (px : Pixel) : (s.fill p px).fb = List.replicate p.N px := rfl
@[simp] theorem fill_bus (s : State) (p : Params) (px : Pixel) : (s.fill p px).bus = s.bus := rfl
@[simp] theorem fill_reply (s : State) (p : Params) (px : Pixel) : (s.fill p px).reply = s.reply := rfl
@[simp] theorem fill_status (s : State) (p : Params) (px : Pixel) : (s.fill p px).status = s.status := rfl
@[simp] theorem fill_latch (s : State) (p : Params) (px : Pixel) : (s.fill p px).latch = s.latch := rfl
@[simp] theorem fill_strip (s : State) (p : Params) (px : Pixel) : (s.fill p px).strip = s.strip := rfl
@[simp] theorem fill_inputs (s : State) (p : Params) (px : Pixel) : (s.fill p px).inputs = s.inputs := rfl
@[simp] theorem fill_now (s : State) (p : Params) (px : Pixel) : (s.fill p px).now = s.now := rfl
@[simp] theorem fill_wasReset (s : State) (p : Params) (px : Pixel) : (s.fill p px).wasReset = s.wasReset := rfl
@[simp] theorem fill_draws (s : State) (p : Params) (px : Pixel) : (s.fill p px).draws = s.draws := rfl

/-! `paint` -/

@[simp] theorem paint_mode (s : State) (p : Params) (f : Nat → Pixel) : (s.paint p f).mode = s.mode := rfl
@[simp] theorem paint_base (s : State) (p : Params) (f : Nat → Pixel) : (s.paint p f).base = s.base := rfl
@[simp] theorem paint_music (s : State) (p : Params) (f : Nat → Pixel) : (s.paint p f).music = s.music := rfl
@[simp] theorem paint_bright (s : State) (p : Params) (f : Nat → Pixel) : (s.paint p f).bright = s.bright := rfl
@[simp] theorem paint_conn (s : State) (p : Params) (f : Nat → Pixel) : (s.paint p f).conn = s.conn := rfl
@[simp] theorem paint_hue (s : State) (p : Params) (f : Nat → Pixel) : (s.paint p f).hue = s.hue := rfl
@[simp] theorem paint_breath (s : State) (p : Params) (f : Nat → Pixel) : (s.paint p f).breath = s.breath := rfl
@[simp] theorem paint_chasePos (s : State) (p : Params) (f : Nat → Pixel) : (s.paint p f).chasePos = s.chasePos := rfl
@[simp] theorem paint_pulse (s : State) (p : Params) (f : Nat → Pixel) : (s.paint p f).pulse = s.pulse := rfl
@[simp] theorem paint_cycLast (s : State) (p : Params) (f : Nat → Pixel) : (s.paint p f).cycLast = s.cycLast := rfl
@[simp] theorem paint_cycHue (s : State) (p : Params) (f : Nat → Pixel) : (s.paint p f).cycHue = s.cycHue := rfl
@[simp] theorem paint_fb (s : State) (p : Params) (f : Nat → Pixel) : (s.paint p f).fb = (List.range p.N).map f := rfl
@[simp] theorem paint_bus (s : State) (p : Params) (f : Nat → Pixel) : (s.paint p f).bus = s.bus := rfl
@[simp] theorem paint_reply (s : State) (p : Params) (f : Nat → Pixel) : (s.paint p f).reply = s.reply := rfl
@[simp] theorem paint_status (s : State) (p : Params) (f : Nat → Pixel) : (s.paint p f).status = s.status := rfl
@[simp] theorem paint_latch (s : State) (p : Params) (f : Nat → Pixel) : (s.paint p f).latch = s.latch := rfl
@[simp] theorem paint_strip (s : State) (p : Params) (f : Nat → Pixel) : (s.paint p f).strip = s.strip := rfl
@[simp] theorem paint_inputs (s : State) (p : Params) (f : Nat → Pixel) : (s.paint p f).inputs = s.inputs := rfl
@[simp] theorem paint_now (s : State) (p : Params) (f : Nat → Pixel) : (s.paint p f).now = s.now := rfl
@[simp] theorem paint_wasReset (s : State) (p : Params) (f : Nat → Pixel) : (s.paint p f).wasReset = s.wasReset := rfl
@[simp] theorem paint_draws (s : State) (p : Params) (f : Nat → Pixel) : (s.paint p f).draws = s.draws := rfl

end Sys2Proof.Machine.State
end

