-- ==== Sys2Proof/Laws/Ops.lean ====
section
/-!
SUPPORT. What the shared operations of Machine/Ops.lean can do: the mode write, the phase reset, taking a rejection, the reset,
and that every write of the frame buffer keeps its canonical form.
-/
namespace Sys2Proof.Machine

/-! The frame buffer keeps its canonical form (10_state.md R36 I-a). -/

theorem fill_keeps_wf (p : Params) (px : Pixel) (s : State) : Memory.wf p (s.fill p px).fb := by simp [Memory.wf]

theorem paint_keeps_wf (p : Params) (f : Nat → Pixel) (s : State) : Memory.wf p (s.paint p f).fb := by simp [Memory.wf]

theorem initial_fb_wf (p : Params) : Memory.wf p (State.initial p).fb := by simp [Memory.wf, State.initial]

/-- `FB[i]` after a write of every pixel (00_scope.md R11). -/
theorem pixel_paint (p : Params) (f : Nat → Pixel) (s : State) {i : Nat} (h : i < p.N) :
    (s.paint p f).pixel i = some (f i) := by
  simp [State.pixel, h]

theorem pixel_fill (p : Params) (px : Pixel) (s : State) {i : Nat} (h : i < p.N) :
    (s.fill p px).pixel i = some px := by
  simp [State.pixel, h]

/-! Time (00_scope.md R13). -/

theorem timeInput_lt (p : Params) (s : State) : timeInput p s < 2 ^ p.TIME_BITS :=
  Nat.mod_lt _ (Nat.two_pow_pos _)

theorem elapsedSince_lt (p : Params) (t0 : Nat) (s : State) : elapsedSince p t0 s < 2 ^ p.TIME_BITS := by
  have hpos : (0 : Int) < ((2 ^ p.TIME_BITS : Nat) : Int) := by exact_mod_cast Nat.two_pow_pos _
  have hlt := Int.emod_lt_of_pos ((timeInput p s : Int) - (t0 : Int)) hpos
  have hge := Int.emod_nonneg ((timeInput p s : Int) - (t0 : Int)) hpos.ne'
  unfold elapsedSince
  omega

/-! `ResetPhase` writes the phase registers of one mode and nothing else (10_state.md R34). -/

/-- Everything `ResetPhase` can do. -/
theorem resetPhase_cases (p : Params) (m : BitVec 8) (s : State) :
    (m = 2 ∧ resetPhase p m s = s.setHue p.HUE_INIT) ∨
    (m = 3 ∧ resetPhase p m s = s.setBreath p.BREATH_INIT) ∨
    (m = 4 ∧ resetPhase p m s = (s.setChasePos p.CHASE_POS_INIT).setPulse p.PULSE_INIT) ∨
    (m = 6 ∧ resetPhase p m s = (s.setCycLast (timeInput p s)).setCycHue p.CYC_HUE_INIT) ∨
    (m ≠ 2 ∧ m ≠ 3 ∧ m ≠ 4 ∧ m ≠ 6 ∧ resetPhase p m s = s) := by
  unfold resetPhase
  split
  case h_1 h => exact .inl ⟨by bv_omega, rfl⟩
  case h_2 h => exact .inr (.inl ⟨by bv_omega, rfl⟩)
  case h_3 h => exact .inr (.inr (.inl ⟨by bv_omega, rfl⟩))
  case h_4 h => exact .inr (.inr (.inr (.inl ⟨by bv_omega, rfl⟩)))
  case h_5 h2 h3 h4 h6 =>
    refine .inr (.inr (.inr (.inr ⟨?_, ?_, ?_, ?_, rfl⟩))) <;> rintro rfl <;> contradiction

/-- `SetModeTo` of the mode that is active changes nothing (10_state.md R34). -/
theorem setModeTo_same (p : Params) (s : State) : setModeTo p s.mode s = s := by simp [setModeTo]

theorem setModeTo_changed (p : Params) {m : BitVec 8} {s : State} (h : m ≠ s.mode) :
    setModeTo p m s = resetPhase p m (s.setMode m) := by simp [setModeTo, h]

/-- A mode without phase state takes no phase reset (10_state.md R34); in the form simp gives the literal. -/
theorem setModeTo_zero (p : Params) (s : State) : setModeTo p 0#8 s = s.setMode 0#8 := by
  unfold setModeTo
  split
  case isTrue h =>
    cases s
    simp_all [State.setMode]
  case isFalse h => rfl

@[simp] theorem resetPhase_mode (p : Params) (m : BitVec 8) (s : State) : (resetPhase p m s).mode = s.mode := by
  unfold resetPhase; split <;> rfl

@[simp] theorem resetPhase_base (p : Params) (m : BitVec 8) (s : State) : (resetPhase p m s).base = s.base := by
  unfold resetPhase; split <;> rfl

@[simp] theorem resetPhase_music (p : Params) (m : BitVec 8) (s : State) : (resetPhase p m s).music = s.music := by
  unfold resetPhase; split <;> rfl

@[simp] theorem resetPhase_bright (p : Params) (m : BitVec 8) (s : State) : (resetPhase p m s).bright = s.bright := by
  unfold resetPhase; split <;> rfl

@[simp] theorem resetPhase_conn (p : Params) (m : BitVec 8) (s : State) : (resetPhase p m s).conn = s.conn := by
  unfold resetPhase; split <;> rfl

@[simp] theorem resetPhase_fb (p : Params) (m : BitVec 8) (s : State) : (resetPhase p m s).fb = s.fb := by
  unfold resetPhase; split <;> rfl

@[simp] theorem resetPhase_bus (p : Params) (m : BitVec 8) (s : State) : (resetPhase p m s).bus = s.bus := by
  unfold resetPhase; split <;> rfl

@[simp] theorem resetPhase_reply (p : Params) (m : BitVec 8) (s : State) : (resetPhase p m s).reply = s.reply := by
  unfold resetPhase; split <;> rfl

@[simp] theorem resetPhase_status (p : Params) (m : BitVec 8) (s : State) : (resetPhase p m s).status = s.status := by
  unfold resetPhase; split <;> rfl

@[simp] theorem resetPhase_latch (p : Params) (m : BitVec 8) (s : State) : (resetPhase p m s).latch = s.latch := by
  unfold resetPhase; split <;> rfl

@[simp] theorem resetPhase_strip (p : Params) (m : BitVec 8) (s : State) : (resetPhase p m s).strip = s.strip := by
  unfold resetPhase; split <;> rfl

@[simp] theorem resetPhase_inputs (p : Params) (m : BitVec 8) (s : State) : (resetPhase p m s).inputs = s.inputs := by
  unfold resetPhase; split <;> rfl

@[simp] theorem resetPhase_now (p : Params) (m : BitVec 8) (s : State) : (resetPhase p m s).now = s.now := by
  unfold resetPhase; split <;> rfl

@[simp] theorem resetPhase_wasReset (p : Params) (m : BitVec 8) (s : State) : (resetPhase p m s).wasReset = s.wasReset := by
  unfold resetPhase; split <;> rfl

@[simp] theorem resetPhase_draws (p : Params) (m : BitVec 8) (s : State) : (resetPhase p m s).draws = s.draws := by
  unfold resetPhase; split <;> rfl

@[simp] theorem setModeTo_mode (p : Params) (m : BitVec 8) (s : State) : (setModeTo p m s).mode = m := by
  unfold setModeTo
  split
  case isTrue h => exact h.symm
  case isFalse h => simp

@[simp] theorem setModeTo_base (p : Params) (m : BitVec 8) (s : State) : (setModeTo p m s).base = s.base := by
  unfold setModeTo; split <;> simp

@[simp] theorem setModeTo_music (p : Params) (m : BitVec 8) (s : State) : (setModeTo p m s).music = s.music := by
  unfold setModeTo; split <;> simp

@[simp] theorem setModeTo_bright (p : Params) (m : BitVec 8) (s : State) : (setModeTo p m s).bright = s.bright := by
  unfold setModeTo; split <;> simp

@[simp] theorem setModeTo_conn (p : Params) (m : BitVec 8) (s : State) : (setModeTo p m s).conn = s.conn := by
  unfold setModeTo; split <;> simp

@[simp] theorem setModeTo_fb (p : Params) (m : BitVec 8) (s : State) : (setModeTo p m s).fb = s.fb := by
  unfold setModeTo; split <;> simp

@[simp] theorem setModeTo_bus (p : Params) (m : BitVec 8) (s : State) : (setModeTo p m s).bus = s.bus := by
  unfold setModeTo; split <;> simp

@[simp] theorem setModeTo_reply (p : Params) (m : BitVec 8) (s : State) : (setModeTo p m s).reply = s.reply := by
  unfold setModeTo; split <;> simp

@[simp] theorem setModeTo_status (p : Params) (m : BitVec 8) (s : State) : (setModeTo p m s).status = s.status := by
  unfold setModeTo; split <;> simp

@[simp] theorem setModeTo_latch (p : Params) (m : BitVec 8) (s : State) : (setModeTo p m s).latch = s.latch := by
  unfold setModeTo; split <;> simp

@[simp] theorem setModeTo_strip (p : Params) (m : BitVec 8) (s : State) : (setModeTo p m s).strip = s.strip := by
  unfold setModeTo; split <;> simp

@[simp] theorem setModeTo_inputs (p : Params) (m : BitVec 8) (s : State) : (setModeTo p m s).inputs = s.inputs := by
  unfold setModeTo; split <;> simp

@[simp] theorem setModeTo_now (p : Params) (m : BitVec 8) (s : State) : (setModeTo p m s).now = s.now := by
  unfold setModeTo; split <;> simp

@[simp] theorem setModeTo_wasReset (p : Params) (m : BitVec 8) (s : State) : (setModeTo p m s).wasReset = s.wasReset := by
  unfold setModeTo; split <;> simp

@[simp] theorem setModeTo_draws (p : Params) (m : BitVec 8) (s : State) : (setModeTo p m s).draws = s.draws := by
  unfold setModeTo; split <;> simp

/-! Taking a rejection appends one STATUS record and does nothing else (60_exceptions.md R175). -/

theorem raiseRejection_eq (outcome : MsgOutcome) (f : Option Format) (op : Option Byte) (s : State) :
    raiseRejection outcome f op s = { s with status := s.status ++ [⟨outcome, f, op⟩] } := rfl

end Sys2Proof.Machine
end

