-- ==== Sys2Proof/Laws/FrameRenderer.lean ====
section
/-!
SUPPORT. What the Frame Renderer does: one equation per operation, and the lengths of what it sends (42_frame_renderer.md).
-/
namespace Sys2Proof.Machine

/-- Everything `EmitFrame` does: BUS, the latch window and the strip; no register and no pixel (42_frame_renderer.md R140, R145). -/
theorem emitFrame_eq (p : Params) (s : State) :
    emitFrame p s =
      { s with
        bus := s.bus ++ [⟨s.latch, frameBits p (s.fb.map fun px => scale px s.bright)⟩]
        latch := p.T_LATCH
        strip := frameBits p (s.fb.map fun px => scale px s.bright) } := rfl

/-- Everything `ImmediateRender` does (40_command_decoder.md R98). -/
theorem immediateRender_eq (p : Params) (px : Pixel) (s : State) :
    immediateRender p px s =
      { s with
        fb := List.replicate p.N px
        bus := s.bus ++ [⟨s.latch, frameBits p (List.replicate p.N (scale px s.bright))⟩]
        latch := p.T_LATCH
        strip := frameBits p (List.replicate p.N (scale px s.bright)) } := by
  simp [immediateRender, emitFrame_eq, State.fill, State.setFb]

theorem channelBits_length (order : BitOrder) (v : Byte) : (channelBits order v).length = 8 := by
  cases order <;> rfl

theorem serialize_length (p : Params) (q : Pixel) : (serialize p q).length = 24 := by
  unfold serialize
  cases p.CHANNEL_ORDER <;> simp [ChannelOrder.channels, channelBits_length]

/-- "A bus frame is therefore `N * 24` bits" (42_frame_renderer.md R142). -/
theorem frameBits_length (p : Params) (scaled : List Pixel) : (frameBits p scaled).length = scaled.length * 24 := by
  induction scaled with
  | nil => rfl
  | cons q rest ih =>
    simp only [frameBits, List.flatMap_cons, List.length_append, List.length_cons] at ih ⊢
    rw [ih, serialize_length]
    omega

/-! Black pixels, brightness 100 and brightness 0 (42_frame_renderer.md R141, 40_command_decoder.md R92(b), R95(a)(b)); literals in
the form simp gives them. -/

theorem black_eq : Pixel.black = ⟨0#8, 0#8, 0#8⟩ := rfl

@[simp] theorem scale_black (b : BitVec 7) : scale .black b = .black := by
  simp [scale, Pixel.black, Pixel.mapChannels, channelOfNat]

@[simp] theorem scale_full (px : Pixel) : scale px 100#7 = px := by
  cases px
  simp [scale, Pixel.mapChannels, channelOfNat]

@[simp] theorem scale_dark (px : Pixel) : scale px 0#7 = .black := by
  simp [scale, Pixel.mapChannels, channelOfNat, Pixel.black]

theorem serialize_black (p : Params) : serialize p .black = List.replicate 24 false := by
  unfold serialize
  cases p.CHANNEL_ORDER <;> cases p.BIT_ORDER <;> decide

theorem frameBits_black (p : Params) (n : Nat) :
    frameBits p (List.replicate n .black) = List.replicate (n * 24) false := by
  induction n with
  | zero => rfl
  | succ n ih =>
    rw [List.replicate_succ]
    simp only [frameBits, List.flatMap_cons] at ih ⊢
    rw [ih, serialize_black, List.replicate_append_replicate]
    congr 1
    omega

end Sys2Proof.Machine
end

