-- ==== Sys2Proof/Laws/EffectEngine.lean ====
section
/-!
SUPPORT. The numbers of the effects: a channel formed from a whole number or a rational in range is that number or its floor, and
the factors of Breathing and Chase lie in [0, 1] by SIN_RANGE (10_state.md R36 I-b, 41_effect_engine.md R115, R116).
-/
namespace Sys2Proof.Machine

theorem channelOfNat_toNat {n : Nat} (h : n ≤ 255) : (channelOfNat n).toNat = n := by
  unfold channelOfNat
  rw [BitVec.toNat_ofNat]
  omega

/-- A channel times a factor in [0, 1] is floored, never wrapped (00_scope.md R15). -/
theorem channelOfRat_floor (c : Byte) {f : Rat} (h0 : 0 ≤ f) (h1 : f ≤ 1) :
    ((channelOfRat ((c.toNat : Rat) * f)).toNat : Int) = ⌊(c.toNat : Rat) * f⌋ := by
  have hc : (c.toNat : Rat) ≤ 255 := by exact_mod_cast Nat.le_of_lt_succ c.isLt
  have hc0 : (0 : Rat) ≤ c.toNat := Nat.cast_nonneg _
  have hlow : 0 ≤ ⌊(c.toNat : Rat) * f⌋ := Int.floor_nonneg.mpr (mul_nonneg hc0 h0)
  have hhigh : ⌊(c.toNat : Rat) * f⌋ < 256 := Int.floor_lt.mpr (by push_cast; nlinarith)
  have hfloor : Rat.floor ((c.toNat : Rat) * f) = ⌊(c.toNat : Rat) * f⌋ := rfl
  unfold channelOfRat
  rw [hfloor, channelOfNat_toNat (by omega)]
  omega

/-- Smoothstep keeps [0, 1] (41_effect_engine.md R115). -/
theorem smoothstep_range {x : Rat} (h0 : 0 ≤ x) (h1 : x ≤ 1) :
    0 ≤ 3 * (x * x) - 2 * (x * x * x) ∧ 3 * (x * x) - 2 * (x * x * x) ≤ 1 := by
  have hlow : 0 ≤ (x * x) * (3 - 2 * x) := mul_nonneg (mul_nonneg h0 h0) (by linarith)
  have hhigh : 0 ≤ ((1 - x) * (1 - x)) * (1 + 2 * x) := mul_nonneg (mul_nonneg (by linarith) (by linarith)) (by linarith)
  constructor <;> nlinarith

theorem breathFactor_range {p : Params} (h : p.SinRange) {a : Nat} (ha : a < p.TURN) :
    0 ≤ breathFactor p a ∧ breathFactor p a ≤ 1 := by
  obtain ⟨hlow, hhigh⟩ := h a ha
  exact smoothstep_range (by linarith) (by linarith)

theorem chaseFalloff_range (n : Nat) : 0 ≤ chaseFalloff n ∧ chaseFalloff n ≤ 1 := by
  unfold chaseFalloff
  split <;> norm_num

theorem pulseFactor_range {p : Params} (h : p.SinRange) {a : Nat} (ha : a < p.TURN) :
    3 / 5 ≤ pulseFactor p a ∧ pulseFactor p a ≤ 1 := by
  obtain ⟨hlow, hhigh⟩ := h a ha
  unfold pulseFactor
  constructor <;> linarith

/-- The product of falloff and pulse lies in [0, 1] (41_effect_engine.md R116). -/
theorem chaseFactor_range {p : Params} (h : p.SinRange) {a : Nat} (ha : a < p.TURN) (n : Nat) :
    0 ≤ chaseFalloff n * pulseFactor p a ∧ chaseFalloff n * pulseFactor p a ≤ 1 := by
  obtain ⟨f0, f1⟩ := chaseFalloff_range n
  obtain ⟨g0, g1⟩ := pulseFactor_range h ha
  constructor
  · exact mul_nonneg f0 (by linarith)
  · nlinarith

/-- Each channel of a dimmed pixel is the floor of the product, for a factor in [0, 1]. -/
theorem dimPixel_channel {f : Rat} (h0 : 0 ≤ f) (h1 : f ≤ 1) (px : Pixel) (c : Channel) :
    (((dimPixel f px).channel c).toNat : Int) = ⌊((px.channel c).toNat : Rat) * f⌋ := by
  cases c <;> exact channelOfRat_floor _ h0 h1

/-- The circular distance written without negative numbers, for indices on the strip (41_effect_engine.md R116). -/
theorem chaseDistance_eq {p : Params} {pos i : Nat} (hpos : pos < p.N) (hi : i < p.N) :
    chaseDistance p pos i = min ((i + p.N - pos) % p.N) ((pos + p.N - i) % p.N) := by
  have ahead : ((i : Int) - (pos : Int)) % (p.N : Int) = (((i + p.N - pos) % p.N : Nat) : Int) := by
    rw [Int.natCast_emod, Nat.cast_sub (by omega), Nat.cast_add,
      show (i : Int) + p.N - pos = (i - pos) + p.N by ring, Int.add_emod_right]
  have behind : ((pos : Int) - (i : Int)) % (p.N : Int) = (((pos + p.N - i) % p.N : Nat) : Int) := by
    rw [Int.natCast_emod, Nat.cast_sub (by omega), Nat.cast_add,
      show (pos : Int) + p.N - i = (pos - i) + p.N by ring, Int.add_emod_right]
  unfold chaseDistance
  rw [ahead, behind, Int.toNat_natCast, Int.toNat_natCast]

end Sys2Proof.Machine
end

