-- ==== Sys2Proof/Laws/PerInstr.lean ====
section
/-!
SUPPORT. Per-instruction laws. The family `TableRow`: an instruction's message is the shortest its row of the opcode table
admits, and the row's match and mask accept it (30_encoding.md R87, R88).
-/
namespace Sys2Proof.Laws.TableRow

/-- The message of a well-formed instruction has its row's minimum length and is accepted by its row's match and mask. -/
def Statement (i : Instr) : Prop :=
  i.wf = true → ∃ row ∈ rowsFor i.format,
    row.mnemonic = i.mnemonic ∧ (encode i).length = row.minLen ∧ row.matchesFirst (encode i) = true

/-- A row of the table accepts a message whose first bytes it fixes. -/
theorem of_row {i : Instr} (row : Row) (hmem : row ∈ rowsFor i.format) (hname : row.mnemonic = i.mnemonic)
    (hlen : (encode i).length = row.minLen) (hfirst : row.matchesFirst (encode i) = true) : Statement i :=
  fun _ => ⟨row, hmem, hname, hlen, hfirst⟩

theorem setcolorB (r g b : Byte) : Statement (.setcolorB r g b) :=
  of_row ⟨"SETCOLOR.B", .B, 0x03, 0xFF, 1, 4, false⟩
    (by simp [rowsFor, rowsB, Instr.format]) rfl rfl (by simp [Row.matchesFirst, encode, bigEndian, Instr.format, Instr.opcode, Format.leadBytes])

theorem setcolorA (r g b : Byte) : Statement (.setcolorA r g b) :=
  of_row ⟨"SETCOLOR.A", .A, 0x0003, 0xFFFF, 2, 5, false⟩
    (by simp [rowsFor, rowsA, Instr.format]) rfl rfl (by simp [Row.matchesFirst, encode, bigEndian, Instr.format, Instr.opcode, Format.leadBytes])

theorem offB : Statement .offB :=
  of_row ⟨"OFF.B", .B, 0x04, 0xFF, 1, 1, false⟩
    (by simp [rowsFor, rowsB, Instr.format]) rfl rfl (by simp [Row.matchesFirst, encode, bigEndian, Instr.format, Instr.opcode, Format.leadBytes])

theorem offA : Statement .offA :=
  of_row ⟨"OFF.A", .A, 0x0004, 0xFFFF, 2, 2, false⟩
    (by simp [rowsFor, rowsA, Instr.format]) rfl rfl (by simp [Row.matchesFirst, encode, bigEndian, Instr.format, Instr.opcode, Format.leadBytes])

theorem setmodeB (m : Byte) : Statement (.setmodeB m) :=
  of_row ⟨"SETMODE.B", .B, 0x05, 0xFF, 1, 2, false⟩
    (by simp [rowsFor, rowsB, Instr.format]) rfl rfl (by simp [Row.matchesFirst, encode, bigEndian, Instr.format, Instr.opcode, Format.leadBytes])

theorem setmodeA (m : Byte) : Statement (.setmodeA m) :=
  of_row ⟨"SETMODE.A", .A, 0x0005, 0xFFFF, 2, 3, false⟩
    (by simp [rowsFor, rowsA, Instr.format]) rfl rfl (by simp [Row.matchesFirst, encode, bigEndian, Instr.format, Instr.opcode, Format.leadBytes])

theorem setmusicB (v : Byte) : Statement (.setmusicB v) :=
  of_row ⟨"SETMUSIC.B", .B, 0x06, 0xFF, 1, 2, false⟩
    (by simp [rowsFor, rowsB, Instr.format]) rfl rfl (by simp [Row.matchesFirst, encode, bigEndian, Instr.format, Instr.opcode, Format.leadBytes])

theorem setmusicA (v : Byte) : Statement (.setmusicA v) :=
  of_row ⟨"SETMUSIC.A", .A, 0x0006, 0xFFFF, 2, 3, false⟩
    (by simp [rowsFor, rowsA, Instr.format]) rfl rfl (by simp [Row.matchesFirst, encode, bigEndian, Instr.format, Instr.opcode, Format.leadBytes])

theorem setbrightB (v : Byte) : Statement (.setbrightB v) :=
  of_row ⟨"SETBRIGHT.B", .B, 0x07, 0xFF, 1, 2, false⟩
    (by simp [rowsFor, rowsB, Instr.format]) rfl rfl (by simp [Row.matchesFirst, encode, bigEndian, Instr.format, Instr.opcode, Format.leadBytes])

theorem setbrightA (v : Byte) : Statement (.setbrightA v) :=
  of_row ⟨"SETBRIGHT.A", .A, 0x0007, 0xFFFF, 2, 3, false⟩
    (by simp [rowsFor, rowsA, Instr.format]) rfl rfl (by simp [Row.matchesFirst, encode, bigEndian, Instr.format, Instr.opcode, Format.leadBytes])

theorem pingB : Statement .pingB :=
  of_row ⟨"PING.B", .B, 0xAA, 0xFF, 1, 1, false⟩
    (by simp [rowsFor, rowsB, Instr.format]) rfl rfl (by simp [Row.matchesFirst, encode, bigEndian, Instr.format, Instr.opcode, Format.leadBytes])

theorem pingA : Statement .pingA :=
  of_row ⟨"PING.A", .A, 0x00AA, 0xFFFF, 2, 2, false⟩
    (by simp [rowsFor, rowsA, Instr.format]) rfl rfl (by simp [Row.matchesFirst, encode, bigEndian, Instr.format, Instr.opcode, Format.leadBytes])

theorem unknownB (op : Byte) : Statement (.unknownB op) :=
  of_row ⟨"UNKNOWN.B", .B, 0x00, 0x00, 1, 1, true⟩
    (by simp [rowsFor, rowsB, Instr.format]) rfl rfl (by simp [Row.matchesFirst])

theorem unknownA (op : Byte) : Statement (.unknownA op) :=
  of_row ⟨"UNKNOWN.A", .A, 0x0000, 0xFF00, 2, 2, true⟩
    (by simp [rowsFor, rowsA, Instr.format]) rfl rfl (by revert op; decide)

end Sys2Proof.Laws.TableRow
end

