-- ==== Sys2Proof/Laws/Step.lean ====
section
/-!
SUPPORT. What a tick, an instruction, a message and a step can do, said once: the inversion lemmas that later proofs cite
instead of unfolding them.
-/
namespace Sys2Proof.Machine

/-- Everything a tick that completes can have done (41_effect_engine.md R110). -/
theorem tick_cases {p : Params} {s t : State} (h : tick p s = .next t) :
    (s.mode = 0 ∧ t = emitFrame p (renderOff p s)) ∨
    (s.mode = 1 ∧ t = emitFrame p (renderStatic p s)) ∨
    (s.mode = 2 ∧ t = emitFrame p (renderRainbow p s)) ∨
    (s.mode = 3 ∧ t = emitFrame p (renderBreathing p s)) ∨
    (s.mode = 4 ∧ t = emitFrame p (renderChase p s)) ∨
    (s.mode = 5 ∧ t = emitFrame p (renderMusic p s)) ∨
    (s.mode = 6 ∧ t = emitFrame p (renderColorCycle p s)) := by
  unfold tick at h
  split at h
  case h_1 hm => exact .inl ⟨by bv_omega, (Host.Outcome.next.inj h).symm⟩
  case h_2 hm => exact .inr (.inl ⟨by bv_omega, (Host.Outcome.next.inj h).symm⟩)
  case h_3 hm => exact .inr (.inr (.inl ⟨by bv_omega, (Host.Outcome.next.inj h).symm⟩))
  case h_4 hm => exact .inr (.inr (.inr (.inl ⟨by bv_omega, (Host.Outcome.next.inj h).symm⟩)))
  case h_5 hm => exact .inr (.inr (.inr (.inr (.inl ⟨by bv_omega, (Host.Outcome.next.inj h).symm⟩))))
  case h_6 hm => exact .inr (.inr (.inr (.inr (.inr (.inl ⟨by bv_omega, (Host.Outcome.next.inj h).symm⟩)))))
  case h_7 hm => exact .inr (.inr (.inr (.inr (.inr (.inr ⟨by bv_omega, (Host.Outcome.next.inj h).symm⟩)))))
  case h_8 => cases h

/-- The effect an instruction has before its STATUS record: the two formats share it (40_command_decoder.md R91 to R97). -/
theorem exec_cases {i : Instr} {s t : State} (h : exec i s = .next t) :
    (∃ f op, t = rejectUnknown f op s) ∨
    (∃ f op u, t = accept f op u ∧
      ((∃ px, u = setColor Config.device px s) ∨ u = turnOff Config.device s ∨ (∃ m, u = setModeTo Config.device m s) ∨
        (∃ v, u = s.setMusic v) ∨ (∃ v, u = setBrightness v s) ∨ u = ping Config.device s)) := by
  cases i with
  | setcolorB r g b => exact .inr ⟨_, _, _, (Host.Outcome.next.inj h).symm, .inl ⟨_, rfl⟩⟩
  | setcolorA r g b => exact .inr ⟨_, _, _, (Host.Outcome.next.inj h).symm, .inl ⟨_, rfl⟩⟩
  | offB => exact .inr ⟨_, _, _, (Host.Outcome.next.inj h).symm, .inr (.inl rfl)⟩
  | offA => exact .inr ⟨_, _, _, (Host.Outcome.next.inj h).symm, .inr (.inl rfl)⟩
  | setmodeB m => exact .inr ⟨_, _, _, (Host.Outcome.next.inj h).symm, .inr (.inr (.inl ⟨m, rfl⟩))⟩
  | setmodeA m => exact .inr ⟨_, _, _, (Host.Outcome.next.inj h).symm, .inr (.inr (.inl ⟨m, rfl⟩))⟩
  | setmusicB v => exact .inr ⟨_, _, _, (Host.Outcome.next.inj h).symm, .inr (.inr (.inr (.inl ⟨v, rfl⟩)))⟩
  | setmusicA v => exact .inr ⟨_, _, _, (Host.Outcome.next.inj h).symm, .inr (.inr (.inr (.inl ⟨v, rfl⟩)))⟩
  | setbrightB v => exact .inr ⟨_, _, _, (Host.Outcome.next.inj h).symm, .inr (.inr (.inr (.inr (.inl ⟨v, rfl⟩))))⟩
  | setbrightA v => exact .inr ⟨_, _, _, (Host.Outcome.next.inj h).symm, .inr (.inr (.inr (.inr (.inl ⟨v, rfl⟩))))⟩
  | pingB => exact .inr ⟨_, _, _, (Host.Outcome.next.inj h).symm, .inr (.inr (.inr (.inr (.inr rfl))))⟩
  | pingA => exact .inr ⟨_, _, _, (Host.Outcome.next.inj h).symm, .inr (.inr (.inr (.inr (.inr rfl))))⟩
  | unknownB op => exact .inl ⟨_, _, (Host.Outcome.next.inj h).symm⟩
  | unknownA op => exact .inl ⟨_, _, (Host.Outcome.next.inj h).symm⟩

/-- Everything a message that completes can have done (40_command_decoder.md R90). -/
theorem receiveMessage_cases {bytes : List Byte} {s t : State} (h : receiveMessage bytes s = .next t) :
    bytes.length ≤ Config.device.MSG_MAX ∧
      ((∃ i, decode bytes = .ok i ∧ exec i s = .next t) ∨ (∃ why, decode bytes = .error why ∧ t = rejectMalformed why s)) := by
  unfold receiveMessage at h
  split at h
  case isTrue hlen =>
    refine ⟨hlen, ?_⟩
    split at h
    case h_1 i hi => exact .inl ⟨i, hi, h⟩
    case h_2 why hw => exact .inr ⟨why, hw, (Host.Outcome.next.inj h).symm⟩
  case isFalse => cases h

theorem afterReset_next {s t : State} {o : Host.Outcome State Fault Refusal} (h : afterReset s o = .next t) :
    s.wasReset = true ∧ o = .next t := by
  unfold afterReset at h
  split at h
  case isTrue hw => exact ⟨hw, h⟩
  case isFalse => cases h

/-- Everything a step that completes can have done: the core waits, or one event has been processed (00_scope.md R12). -/
theorem step_cases {s t : State} (h : step s = .next t) :
    (s.inputs = [] ∧ t = s) ∨
    (∃ rest, s.inputs = .reset :: rest ∧ t = applyReset Config.device (s.takeInput rest s.now)) ∨
    (∃ bytes now rest, s.inputs = .msg bytes now :: rest ∧ s.wasReset = true ∧
      receiveMessage bytes (s.takeInput rest now) = .next t) ∨
    (∃ now rest, s.inputs = .tick now :: rest ∧ s.wasReset = true ∧ tick Config.device (s.takeInput rest now) = .next t) ∨
    (∃ now rest, s.inputs = .connect now :: rest ∧ s.wasReset = true ∧ t = connect Config.device (s.takeInput rest now)) ∨
    (∃ now rest, s.inputs = .disconnect now :: rest ∧ s.wasReset = true ∧
      t = disconnect Config.device (s.takeInput rest now)) := by
  unfold step takeNext at h
  split at h
  case h_1 hin => exact .inl ⟨hin, (Host.Outcome.next.inj h).symm⟩
  case h_2 e rest hin =>
    cases e with
    | reset => exact .inr (.inl ⟨rest, hin, (Host.Outcome.next.inj h).symm⟩)
    | msg bytes now =>
      obtain ⟨hw, ho⟩ := afterReset_next h
      exact .inr (.inr (.inl ⟨bytes, now, rest, hin, hw, ho⟩))
    | tick now =>
      obtain ⟨hw, ho⟩ := afterReset_next h
      exact .inr (.inr (.inr (.inl ⟨now, rest, hin, hw, ho⟩)))
    | connect now =>
      obtain ⟨hw, ho⟩ := afterReset_next h
      exact .inr (.inr (.inr (.inr (.inl ⟨now, rest, hin, hw, (Host.Outcome.next.inj ho).symm⟩))))
    | disconnect now =>
      obtain ⟨hw, ho⟩ := afterReset_next h
      exact .inr (.inr (.inr (.inr (.inr ⟨now, rest, hin, hw, (Host.Outcome.next.inj ho).symm⟩))))

/-- Everything sending a list of frames does: the first goes out after the idle time owed, the others after T_LATCH, and the
strip shows the last; no frame leaves everything (60_exceptions.md R180, 42_frame_renderer.md R144). -/
theorem sendFrames_eq (p : Params) (frames : List (List Pixel)) (s : State) :
    sendFrames p frames s =
      { s with
        bus := s.bus ++ List.zipWith BusFrame.mk (s.latch :: List.replicate frames.length p.T_LATCH) (frames.map (frameBits p))
        latch := if frames = [] then s.latch else p.T_LATCH
        strip := (frames.map (frameBits p)).getLast?.getD s.strip } := by
  induction frames generalizing s with
  | nil => simp [sendFrames]
  | cons frame rest ih =>
    rw [sendFrames, ih]
    cases rest <;> simp [sendFrame, State.pushFrame, List.replicate_succ, List.getLast?_cons]

/-- Everything `Connect` does (60_exceptions.md R180). -/
theorem connect_eq (p : Params) (s : State) :
    connect p s =
      { sendFrames p p.CONNECT_FRAMES s with
        conn := true
        fb := (List.range p.N).map (p.freePixel s.draws)
        draws := s.draws + 1 } := by
  simp [connect, forgetFb, sendFrames_eq, raiseConnected, State.setConn, State.paint, State.setFb, State.countDraw]

end Sys2Proof.Machine
end

