-- ==== Sys2Proof/Tests/Slice0.lean ====
section
/-!
SUPPORT. Tests. Expected results come from the spec: the encodings of 30_encoding.md, the vectors of 95_test_vectors.md (the
section stands by each test) and the worked examples of the rules. The REF profile is 95_test_vectors.md section 0.
-/
namespace Sys2Proof.Tests
open Sys2Proof.Machine

/-! WellFormed: the smoke test, an ill-formed term for each check (30_encoding.md R80). -/

theorem test_wf_refuses_unknownB_of_defined : (Instr.unknownB 0x03).wf = false := by decide
theorem test_wf_refuses_unknownA_of_defined : (Instr.unknownA 0xAA).wf = false := by decide
theorem test_wf_accepts_unknown_zero : (Instr.unknownB 0x00).wf = true := by decide

/-! Decoding: one word per constructor, written out from the layouts of 30_encoding.md R72, R73 and the opcodes of R74
(95_test_vectors.md section 2.1). -/

theorem test_decode_setcolorB : (decode [0x03, 1, 2, 3]).toOption = some (.setcolorB 1 2 3) := by decide
theorem test_decode_setcolorA : (decode [0x00, 0x03, 1, 2, 3]).toOption = some (.setcolorA 1 2 3) := by decide
theorem test_decode_offB_trailing : (decode [0x04, 0xFF, 0xFF]).toOption = some .offB := by decide
theorem test_decode_offA : (decode [0x00, 0x04]).toOption = some .offA := by decide
theorem test_decode_setmodeB : (decode [0x05, 0x02]).toOption = some (.setmodeB 2) := by decide
theorem test_decode_setmodeA : (decode [0x00, 0x05, 0x06]).toOption = some (.setmodeA 6) := by decide
theorem test_decode_setmusicB_zero : (decode [0x06, 0x00]).toOption = some (.setmusicB 0) := by decide
theorem test_decode_setmusicA : (decode [0x00, 0x06, 0xFF, 0x4D]).toOption = some (.setmusicA 255) := by decide
theorem test_decode_setbrightB : (decode [0x07, 0xC8]).toOption = some (.setbrightB 200) := by decide
theorem test_decode_setbrightA : (decode [0x00, 0x07, 50]).toOption = some (.setbrightA 50) := by decide
theorem test_decode_pingB : (decode [0xAA]).toOption = some .pingB := by decide
theorem test_decode_pingA : (decode [0x00, 0xAA]).toOption = some .pingA := by decide
theorem test_decode_lone_zero : (decode [0x00]).toOption = some (.unknownB 0x00) := by decide
theorem test_decode_second_zero_kept : (decode [0x00, 0x00, 0x03, 1, 2, 3]).toOption = some (.unknownA 0x00) := by decide

/-- The malformed rows 1, 11, 16, 22, 28 of 95_test_vectors.md section 2.1. -/
theorem test_decode_malformed :
    [decode [], decode [0x03, 1, 2], decode [0x00, 0x03, 1, 2], decode [0x00, 0x05], decode [0x06]].map
        (fun d => match d with | .error why => some why | .ok _ => none) =
      [some .empty, some (.short .B 0x03), some (.short .A 0x03), some (.short .A 0x05), some (.short .B 0x06)] := by
  decide

/-- Table words under the numbering of 30_encoding.md R88: byte 0 the most significant. -/
theorem test_table_words :
    [decodeTableWord 8 0x03, decodeTableWord 16 0x0003, decodeTableWord 16 0x00AA, decodeTableWord 8 0x00,
        decodeTableWord 16 0x0000] =
      [some (.setcolorB 0 0 0), some (.setcolorA 0 0 0), some .pingA, some (.unknownB 0), some (.unknownA 0)] := by
  decide

/-! The REF profile (95_test_vectors.md section 0). -/

/-- A sine with the named properties of 00_scope.md R14, zero where they fix nothing. -/
def refSin (a : Nat) : Rat :=
  if a = 90 then 1
  else if a = 270 then -1
  else if a = 30 ∨ a = 150 then 1 / 2
  else if a = 210 ∨ a = 330 then -1 / 2
  else 0

def ref (n : Nat) : Params where
  N := n
  MSG_MAX := 64
  REPLY_LEN := 8
  ACK_TAG := #v[0xA0, 0xA1, 0xA2, 0xA3]
  ANGLE_Q := 1
  HUE_STEP := 30
  HUE_INIT := 0
  BREATH_STEP := 90
  BREATH_INIT := 0
  CHASE_POS_INIT := 0
  PULSE_STEP := 90
  PULSE_INIT := 0
  CYCLE_INTERVAL_MS := 200
  CYCLE_HUE_STEP := 60
  CYC_HUE_INIT := 0
  TICK_PERIOD_MS := 30
  TIME_BITS := 32
  CHANNEL_ORDER := .grb
  BIT_ORDER := .msbFirst
  T_LATCH := 50
  Sin := refSin
  CONNECT_FRAMES := []
  freePixel := fun _ _ => .black
  stripAtPowerUp := []

/-- A reset core in a mode, with a base colour. -/
def lit (p : Params) (mode : BitVec 8) (base : Pixel) : State := { State.initial p with mode := mode, base := base }

/-- The frame buffer after an outcome. -/
def fbOf : Host.Outcome State Fault Refusal → Option (List Pixel)
  | .next t => some t.fb
  | .fault _ => none
  | .refused _ => none

/-! Commands on the REF profile. -/

/-- Source Example 1: Off becomes Static, FB keeps the unscaled colour, the frame is scaled (40_command_decoder.md R91). -/
theorem test_setColor_from_off :
    let t := setColor (ref 1) ⟨10, 20, 30⟩ { State.initial (ref 1) with bright := 50 }
    (t.mode, t.base, t.fb, t.bus.map (·.bits)) =
      (1, ⟨10, 20, 30⟩, [⟨10, 20, 30⟩], [frameBits (ref 1) [⟨5, 10, 15⟩]]) := by decide

/-- Section 2.1, SETCOLOR in mode 4: the mode and the phase registers stay. -/
theorem test_setColor_in_chase :
    let t := setColor (ref 1) ⟨9, 9, 9⟩ { lit (ref 1) 4 .black with pulse := 270 }
    (t.mode, t.base, t.pulse) = (4, ⟨9, 9, 9⟩, 270) := by decide

/-- Source Example 3: BASE survives, FB is black. -/
theorem test_turnOff :
    let t := turnOff (ref 2) (lit (ref 2) 3 ⟨10, 20, 30⟩)
    (t.mode, t.base, t.fb, t.bus.length) = (0, ⟨10, 20, 30⟩, [.black, .black], 1) := by decide

/-- Section 2.10, mode 4 to 6 at now 1000: CYC_HUE and CYC_LAST are reset, PULSE is kept. -/
theorem test_setModeTo_colorcycle :
    let t := setModeTo (ref 1) 6 { lit (ref 1) 4 .black with pulse := 270, cycHue := 120, cycLast := 520, now := 1000 }
    (t.mode, t.cycHue, t.cycLast, t.pulse, t.bus) = (6, 0, 1000, 270, []) := by decide

/-- Section 2.10, mode 2 to 2: no phase is reset. -/
theorem test_setModeTo_same_mode : (setModeTo (ref 1) 2 { lit (ref 1) 2 .black with hue := 90 }).hue = 90 := by decide

/-- Section 2.1 rows 32 to 36. -/
theorem test_clampBrightness : [0, 99, 100, 101, 255].map clampBrightness = [0, 99, 100, 100, 100] := by decide

/-- Source Example 6 with the REF tag. -/
theorem test_ping : (ping (ref 1) (State.initial (ref 1))).reply = [[0xA0, 0xA1, 0xA2, 0xA3, 0, 0, 0, 0]] := by decide

/-! The renderer and the colour conversion. -/

/-- Section 2.3: the scaler truncates. -/
theorem test_scale :
    [scale ⟨255, 10, 20⟩ 50, scale ⟨255, 1, 100⟩ 99, scale ⟨100, 99, 255⟩ 1, scale ⟨200, 127, 7⟩ 0] =
      [⟨127, 5, 10⟩, ⟨252, 0, 99⟩, ⟨1, 0, 2⟩, ⟨0, 0, 0⟩] := by decide

/-- Section 2.3: (5, 10, 15) as 00001010 00000101 00001111 in (G, R, B), msb first. -/
theorem test_serialize_grb_msb :
    serialize (ref 1) ⟨5, 10, 15⟩ =
      [false, false, false, false, true, false, true, false] ++
        [false, false, false, false, false, true, false, true] ++
        [false, false, false, false, true, true, true, true] := by decide

/-- Section 2.3: (5, 10, 15) as 10100000 01010000 11110000 in (R, G, B), lsb first. -/
theorem test_serialize_rgb_lsb :
    serialize { ref 1 with CHANNEL_ORDER := .rgb, BIT_ORDER := .lsbFirst } ⟨5, 10, 15⟩ =
      [true, false, true, false, false, false, false, false] ++
        [false, true, false, true, false, false, false, false] ++
        [true, true, true, true, false, false, false, false] := by decide

/-- Section 2.2, ANGLE_Q = 1. -/
theorem test_hueToRgb :
    [1, 59, 60, 102, 154, 205, 257, 308, 359, 390].map (hueToRgb (ref 1)) =
      [⟨255, 4, 0⟩, ⟨255, 250, 0⟩, ⟨255, 255, 0⟩, ⟨76, 255, 0⟩, ⟨0, 255, 144⟩, ⟨0, 148, 255⟩, ⟨72, 0, 255⟩, ⟨255, 0, 221⟩,
        ⟨255, 0, 4⟩, ⟨255, 127, 0⟩] := by decide

/-- Section 2.2, ANGLE_Q = 10. -/
theorem test_hueToRgb_tenths :
    [1, 599, 605, 3599].map (hueToRgb { ref 1 with ANGLE_Q := 10 }) =
      [⟨255, 0, 0⟩, ⟨255, 254, 0⟩, ⟨252, 255, 0⟩, ⟨255, 0, 0⟩] := by decide

/-! Ticks on the REF profile. -/

/-- Section 2.4, N = 7, HUE = 0. -/
theorem test_tick_rainbow :
    fbOf (tick (ref 7) (lit (ref 7) 2 .black)) =
      some [⟨255, 0, 0⟩, ⟨255, 216, 0⟩, ⟨76, 255, 0⟩, ⟨0, 255, 144⟩, ⟨0, 148, 255⟩, ⟨72, 0, 255⟩, ⟨255, 0, 221⟩] := by decide

/-- Section 2.4: HUE 330 advances to 0. -/
theorem test_rainbow_wraps : (renderRainbow (ref 1) { lit (ref 1) 2 .black with hue := 330 }).hue = 0 := by decide

/-- Section 2.5, BREATH = 30 and 210. -/
theorem test_tick_breathing :
    [30, 210].map (fun a => fbOf (tick (ref 1) { lit (ref 1) 3 ⟨255, 128, 10⟩ with breath := a })) =
      [some [⟨215, 108, 8⟩], some [⟨39, 20, 1⟩]] := by decide +kernel

/-- Section 2.6, N = 6, CHASE_POS 5, PULSE 30. -/
theorem test_tick_chase :
    fbOf (tick (ref 6) { lit (ref 6) 4 ⟨255, 100, 10⟩ with chasePos := 5, pulse := 30 }) =
      some [⟨137, 54, 5⟩, ⟨68, 27, 2⟩, ⟨0, 0, 0⟩, ⟨68, 27, 2⟩, ⟨137, 54, 5⟩, ⟨229, 90, 9⟩] := by decide +kernel

/-- Section 2.6: CHASE_POS 5 to 0 for N = 6, PULSE 270 to 0. -/
theorem test_chase_wraps :
    let t := renderChase (ref 6) { lit (ref 6) 4 .black with chasePos := 5, pulse := 270 }
    (t.chasePos, t.pulse) = (0, 0) := by decide

/-- Section 2.7, N = 6, MUSIC 128 and 254. -/
theorem test_tick_music :
    [128, 254].map (fun v => fbOf (tick (ref 6) { lit (ref 6) 5 ⟨255, 100, 10⟩ with music := v })) =
      [some [⟨255, 100, 10⟩, ⟨255, 100, 10⟩, ⟨255, 100, 10⟩, ⟨3, 1, 0⟩, .black, .black],
        some [⟨255, 100, 10⟩, ⟨255, 100, 10⟩, ⟨255, 100, 10⟩, ⟨255, 100, 10⟩, ⟨255, 100, 10⟩, ⟨249, 97, 9⟩]] := by decide

/-- Section 2.9, elapsed 199 across the wrap of `now`: no update. -/
theorem test_colorcycle_before_interval :
    let t := renderColorCycle (ref 1) { lit (ref 1) 6 ⟨1, 2, 3⟩ with cycLast := 4294967096, now := 4294967295 }
    (t.cycHue, t.base, t.cycLast) = (0, ⟨1, 2, 3⟩, 4294967096) := by decide

/-- Section 2.9, elapsed 204 across the wrap of `now`: one step. -/
theorem test_colorcycle_wrapped :
    let t := renderColorCycle (ref 1) { lit (ref 1) 6 ⟨1, 2, 3⟩ with cycLast := 4294967096, now := 4 }
    (t.cycHue, t.base, t.cycLast, t.fb) = (60, ⟨255, 255, 0⟩, 4, [⟨255, 255, 0⟩]) := by decide

/-- Section 2.11: Disconnect in mode 4 keeps BASE, MUSIC and BRIGHT. -/
theorem test_disconnect :
    let t := disconnect (ref 1) { lit (ref 1) 4 ⟨9, 9, 9⟩ with music := 77, bright := 40, conn := true }
    (t.mode, t.base, t.music, t.bright) = (0, ⟨9, 9, 9⟩, 77, 40) ∧ (t.conn, t.fb, t.bus.length) = (false, [.black], 1) := by
  decide

/-- Section 60_exceptions.md R180 with a sequence of two frames: the second waits for T_LATCH, and so will the next frame (R144). -/
theorem test_connect_two_frames :
    let p := { ref 1 with CONNECT_FRAMES := [[⟨1, 2, 3⟩], [⟨4, 5, 6⟩]] }
    let t := connect p (State.initial p)
    (t.conn, t.bus.map (·.idleBefore), t.latch, t.strip) = (true, [0, 50], 50, frameBits p [⟨4, 5, 6⟩]) := by decide

/-! One step of the device itself. -/

/-- The mode, the level, the brightness and the STATUS history after an outcome. -/
def summary : Host.Outcome State Fault Refusal → Option (BitVec 8 × BitVec 8 × BitVec 7 × List StatusRecord)
  | .next t => some (t.mode, t.music, t.bright, t.status)
  | .fault _ => none
  | .refused _ => none

/-- 95_test_vectors.md program 3 step 13: SETMUSIC in Format A, first after reset. -/
theorem test_step_setmusicA :
    summary (step (presentMessage [0x00, 0x06, 0xFF, 0x4D] State.reset)) =
      some (0, 255, 100, [⟨.accepted, some .A, some 0x06⟩]) := by decide

/-- Source Example 5: the empty message is malformed. -/
theorem test_step_empty_message :
    summary (step (presentMessage [] State.reset)) = some (0, 0, 100, [⟨.malformedMessage, none, none⟩]) := by decide

/-- The table word of SETMODE.A with its operand zero runs first after reset. -/
theorem test_step_table_word :
    summary (step (State.reset.withFetchWord 16 0x0005)) = some (0, 0, 100, [⟨.accepted, some .A, some 0x05⟩]) := by decide

/-- The table word of SETCOLOR.A runs first after reset: Off becomes Static. -/
theorem test_step_table_word_setcolor :
    summary (step (State.reset.withFetchWord 16 0x0003)) = some (1, 0, 100, [⟨.accepted, some .A, some 0x03⟩]) := by decide

/-! Witnesses: for each statement of Certificates/Slice0/Obligations.lean that has hypotheses, a concrete state and operands that
meet them together, clause by clause. -/

/-- A reset core in a mode with one event presented. -/
def presented (mode : BitVec 8) (e : Event) : State := { State.reset with mode := mode, inputs := [e] }

theorem witness_DecodeOfEncode :
    (Instr.setcolorB 1 2 3).wf = true ∧ (Instr.unknownB 0x00).wf = true ∧ (Instr.unknownB 0xFF).wf = true ∧
      (Instr.setcolorB 1 2 3 = .unknownB 0x00 → ([9, 9] : List Byte) = []) := by decide

theorem witness_DecodeOnlyOfEncode : ∃ i j, decode [0x00] = .ok i ∧ decode [0x00, 0x07, 0x65, 0x01] = .ok j :=
  ⟨.unknownB 0x00, .setbrightA 101, rfl, rfl⟩

theorem witness_OpcodeZeroUnusable : ∃ i, decode [0x00, 0x04] = .ok i := ⟨.offA, rfl⟩

theorem witness_StepRunsDecodedInstruction :
    (presented 0 (.msg [0xAA] 5)).wasReset = true ∧ (presented 0 (.msg [0xAA] 5)).inputs = [.msg [0xAA] 5] ∧
      ([0xAA] : List Byte).length ≤ Config.device.MSG_MAX ∧ decode [0xAA] = .ok .pingB :=
  ⟨rfl, rfl, Nat.le_trans (by decide) Config.device_valid.MSG_MAX_ge, rfl⟩

theorem witness_TableWordRunsNext :
    decodeTableWord 16 0x0003 = some (.setcolorA 0 0 0) ∧ (tableMessage 16 0x0003).length ≤ Config.device.MSG_MAX :=
  ⟨by decide, Nat.le_trans (by decide) Config.device_valid.MSG_MAX_ge⟩

/-- One message for each of the four clauses. -/
theorem witness_RejectionOnlyRecords :
    (∀ bytes ∈ ([[], [0x03, 1, 2], [0x00], [0x00, 0x08]] : List (List Byte)), bytes.length ≤ Config.device.MSG_MAX) ∧
      decode [] = .error .empty ∧ decode [0x03, 1, 2] = .error (.short .B 0x03) ∧ decode [0x00] = .ok (.unknownB 0x00) ∧
      decode [0x00, 0x08] = .ok (.unknownA 0x08) ∧ (presented 0 (.msg [0x00] 0)).wasReset = true :=
  ⟨fun bytes h => Nat.le_trans (by revert bytes; decide) Config.device_valid.MSG_MAX_ge, rfl, rfl, rfl, rfl, rfl⟩

theorem witness_WaitsForAnEvent : State.reset.inputs = [] := rfl

theorem witness_OnlyResetFollowsNothing :
    ∃ s s' : State, s.wasReset = false ∧ s.inputs = [.tick 0] ∧ Event.tick 0 ≠ .reset ∧ s'.wasReset = false ∧
      s'.inputs = [.reset] :=
  ⟨{ presented 0 (.tick 0) with wasReset := false }, { presented 0 .reset with wasReset := false }, rfl, rfl, by decide, rfl, rfl⟩

theorem witness_OverlongMessageStops :
    ∃ (s : State) (bytes : List Byte), s.wasReset = true ∧ s.inputs = [.msg bytes 0] ∧
      Config.device.MSG_MAX < bytes.length :=
  ⟨presented 0 (.msg (List.replicate (Config.device.MSG_MAX + 1) 0) 0), List.replicate (Config.device.MSG_MAX + 1) 0, rfl, rfl, by
    rw [List.length_replicate]
    exact Nat.lt_succ_self _⟩

theorem witness_ResetEventRestoresResetState : (presented 4 .reset).inputs = [.reset] := rfl

theorem witness_OffBlacksTheStrip :
    ∃ t u v w : State, exec .offB (presented 2 .reset) = .next t ∧ exec (.setmodeB 1) t = .next u ∧ exec (.setmodeB 2) t = .next v ∧
      exec (.setmodeA 6) t = .next w :=
  ⟨_, _, _, _, rfl, rfl, rfl, rfl⟩

theorem witness_SetMusicStoresLevel :
    ∃ t, (presented 2 (.tick 0)).mode ≠ 5 ∧ tick Config.device (presented 2 (.tick 0)) = .next t :=
  ⟨_, by decide, rfl⟩

theorem witness_SetBrightClampsBrightness :
    ({ State.reset with bright := 0 } : State).bright = 0 ∧ State.reset.bright = 100 := ⟨rfl, rfl⟩

theorem witness_UnknownOpcodeIsRejected :
    (0x00 : Byte) ∉ ([0x03, 0x04, 0x05, 0x06, 0x07, 0xAA] : List Byte) ∧
      (0xFF : Byte) ∉ ([0x03, 0x04, 0x05, 0x06, 0x07, 0xAA] : List Byte) ∧
      ((0xFF : Byte) = 0 → ([1, 2] : List Byte) = []) := by decide

theorem witness_ScaleTruncates : (100 : BitVec 7).toNat ≤ 100 ∧ (0 : BitVec 7).toNat ≤ 100 := by decide

theorem witness_FrameBitsInOrder :
    ([⟨1, 2, 3⟩, ⟨4, 5, 6⟩] : List Pixel)[1]? = some ⟨4, 5, 6⟩ ∧ (ref 2).CHANNEL_ORDER.channels[2]? = some .b ∧ 7 < 8 := by decide

theorem witness_EmitFrameIsProjection :
    ∃ s s' t : State, s'.fb = s.fb ∧ s'.bright = s.bright ∧ s'.mode ≠ s.mode ∧ s.inputs = [] ∧ step s = .next t :=
  ⟨State.reset, { State.reset with mode := 3 }, State.reset, rfl, rfl, by decide, rfl, rfl⟩

/-- The REF profile meets the domains and SIN_RANGE. -/
theorem witness_HueToRgbBySector : (ref 6).Valid where
  N_pos := by decide
  MSG_MAX_ge := by decide
  REPLY_LEN_ge := by decide
  ANGLE_Q_pos := by decide
  HUE_STEP_lt := by decide
  HUE_INIT_lt := by decide
  BREATH_STEP_lt := by decide
  BREATH_INIT_lt := by decide
  CHASE_POS_INIT_lt := by decide
  PULSE_STEP_lt := by decide
  PULSE_INIT_lt := by decide
  CYCLE_HUE_STEP_lt := by decide
  CYC_HUE_INIT_lt := by decide
  TICK_PERIOD_MS_pos := by decide
  TIME_BITS_pos := by decide
  T_LATCH_pos := by decide
  sinRange := by
    intro a _
    show -1 ≤ refSin a ∧ refSin a ≤ 1
    unfold refSin
    repeat' split
    all_goals norm_num
  connectFrames := fun _ h => absurd h List.not_mem_nil

/-- One state for the tick statements of the modes 0, 1, 2, 5 and 6. -/
theorem witness_ticks :
    ∀ mode ∈ ([0, 1, 2, 5, 6] : List (BitVec 8)), (presented mode (.tick 7)).wasReset = true ∧
      (presented mode (.tick 7)).inputs = [.tick 7] ∧ (presented mode (.tick 7)).mode = mode :=
  fun _ _ => ⟨rfl, rfl, rfl⟩

theorem witness_TickOffIsBlack : (presented 0 (.tick 7)).wasReset = true ∧ (presented 0 (.tick 7)).inputs = [.tick 7] ∧
    (presented 0 (.tick 7)).mode = 0 := witness_ticks 0 (by decide)

theorem witness_TickStaticShowsBase : (presented 1 (.tick 7)).wasReset = true ∧ (presented 1 (.tick 7)).inputs = [.tick 7] ∧
    (presented 1 (.tick 7)).mode = 1 := witness_ticks 1 (by decide)

theorem witness_TickRainbowTurns : (presented 2 (.tick 7)).wasReset = true ∧ (presented 2 (.tick 7)).inputs = [.tick 7] ∧
    (presented 2 (.tick 7)).mode = 2 := witness_ticks 2 (by decide)

theorem witness_TickBreathingDimsBase : (presented 3 (.tick 7)).wasReset = true ∧ (presented 3 (.tick 7)).inputs = [.tick 7] ∧
    (presented 3 (.tick 7)).mode = 3 ∧ (presented 3 (.tick 7)).breath < Config.device.TURN :=
  ⟨rfl, rfl, rfl, Config.device_valid.BREATH_INIT_lt⟩

/-- The REF profile at the four named angles. -/
theorem witness_BreathingAtNamedAngles :
    (ref 1).Sin90 ∧ (ref 1).Sin270 ∧ (ref 1).Sin0 ∧ (ref 1).Sin30 ∧
      ({ State.reset with breath := 90 } : State).breath = 90 * (ref 1).ANGLE_Q ∧
      ({ State.reset with breath := 270 } : State).breath = 270 * (ref 1).ANGLE_Q ∧
      ({ State.reset with breath := 0 } : State).breath = 0 ∧
      ({ State.reset with breath := 30 } : State).breath = 30 * (ref 1).ANGLE_Q := by
  refine ⟨rfl, rfl, rfl, ⟨rfl, rfl, ?_, ?_⟩, rfl, rfl, rfl, rfl⟩ <;> decide +kernel

theorem witness_TickChaseLightsAround : (presented 4 (.tick 7)).wasReset = true ∧ (presented 4 (.tick 7)).inputs = [.tick 7] ∧
    (presented 4 (.tick 7)).mode = 4 ∧ (presented 4 (.tick 7)).chasePos < Config.device.N ∧
    (presented 4 (.tick 7)).pulse < Config.device.TURN :=
  ⟨rfl, rfl, rfl, Config.device_valid.CHASE_POS_INIT_lt, Config.device_valid.PULSE_INIT_lt⟩

theorem witness_ChaseVisitsEveryIndex :
    ∃ s : State, s.wasReset = true ∧ s.mode = 4 ∧ s.chasePos < Config.device.N ∧ s.inputs = [.tick 0, .tick 30] ++ [.reset] ∧
      (∀ e ∈ ([.tick 0, .tick 30] : List Event), ∃ now, e = .tick now) ∧ 0 < Config.device.N :=
  ⟨{ State.reset with mode := 4, inputs := [.tick 0, .tick 30, .reset] }, rfl, rfl, Config.device_valid.CHASE_POS_INIT_lt, rfl,
    by simp, Config.device_valid.N_pos⟩

theorem witness_TickMusicDrawsBar : (presented 5 (.tick 7)).wasReset = true ∧ (presented 5 (.tick 7)).inputs = [.tick 7] ∧
    (presented 5 (.tick 7)).mode = 5 ∧ ({ presented 5 (.tick 7) with music := 255 } : State).music = 255 :=
  ⟨rfl, rfl, rfl, rfl⟩

theorem witness_TickColorCycleByInterval : (presented 6 (.tick 7)).wasReset = true ∧
    (presented 6 (.tick 7)).inputs = [.tick 7] ∧ (presented 6 (.tick 7)).mode = 6 := witness_ticks 6 (by decide)

theorem witness_TickInReservedModeRefused :
    7 ≤ (presented 7 (.tick 0)).mode.toNat ∧ 7 ≤ (presented 255 (.tick 0)).mode.toNat ∧
      (presented 7 (.msg [] 0)).wasReset = true ∧ (presented 7 (.msg [] 0)).inputs = [.msg [] 0] ∧
      (∀ now, Event.msg [] 0 ≠ .tick now) ∧ (presented 255 .reset).inputs = [.reset] ∧ (∀ now, Event.reset ≠ .tick now) ∧
      ∀ bytes now, Event.msg [] 0 = .msg bytes now → bytes.length ≤ Config.device.MSG_MAX :=
  ⟨by decide, by decide, rfl, rfl, nofun, rfl, nofun, by rintro _ _ ⟨⟩; exact Nat.zero_le _⟩

theorem witness_ConnectPlaysSequence :
    (presented 3 (.connect 9)).wasReset = true ∧ (presented 3 (.connect 9)).inputs = [.connect 9] := ⟨rfl, rfl⟩

theorem witness_DisconnectForcesOff :
    (presented 3 (.disconnect 9)).wasReset = true ∧ (presented 3 (.disconnect 9)).inputs = [.disconnect 9] := ⟨rfl, rfl⟩

/-- A state in range, not the reset state, with a step that completes. -/
theorem witness_StepKeepsRanges : ∃ t, InRange Config.device (presented 4 (.tick 7)) ∧ step (presented 4 (.tick 7)) = .next t :=
  ⟨_,
    { fbLength := List.length_replicate
      bright := by decide
      hue := Config.device_valid.HUE_INIT_lt
      breath := Config.device_valid.BREATH_INIT_lt
      chasePos := Config.device_valid.CHASE_POS_INIT_lt
      pulse := Config.device_valid.PULSE_INIT_lt
      cycHue := Config.device_valid.CYC_HUE_INIT_lt
      cycLast := Nat.two_pow_pos _ }, rfl⟩

theorem witness_StepKeepsOutputShapes :
    ∃ t, OutputsShaped Config.device (presented 0 (.disconnect 7)) ∧ step (presented 0 (.disconnect 7)) = .next t :=
  ⟨_, { frames := fun _ h => absurd h List.not_mem_nil, replies := fun _ h => absurd h List.not_mem_nil }, rfl⟩

/-- A state with two frames already sent. -/
theorem witness_StepKeepsLatchGaps :
    ∃ s t, s.bus.length = 2 ∧ LatchKept Config.device s ∧ step s = .next t :=
  ⟨{ presented 0 (.tick 7) with bus := [⟨0, []⟩, ⟨Config.device.T_LATCH, []⟩], latch := Config.device.T_LATCH }, _, rfl,
    { between := by simp, owed := fun _ => Nat.le_refl _ }, rfl⟩

theorem witness_StripShowsLastFrame :
    ∃ s t : State, (∀ frame, s.bus.getLast? = some frame → s.strip = frame.bits) ∧ step s = .next t ∧ t.bus = s.bus :=
  ⟨{ presented 0 .reset with inputs := [], bus := [⟨0, [true]⟩], strip := [true] }, _, by simp, rfl, rfl⟩

/-- One completing step for each kind of event, for the rules of the whole machine. -/
theorem witness_every_event :
    ∀ e ∈ ([.reset, .msg [0x05, 0x02] 1, .msg [] 1, .tick 1, .connect 1, .disconnect 1] : List Event),
      ∃ t, (presented 1 e).inputs = [e] ∧ step (presented 1 e) = .next t := by
  intro e he
  simp only [List.mem_cons, List.not_mem_nil, or_false] at he
  rcases he with rfl | rfl | rfl | rfl | rfl | rfl <;> exact ⟨_, rfl, rfl⟩

theorem witness_ModeFollowsTransitionTable :
    ∃ t, (presented 1 (.msg [0x05, 0x02] 1)).inputs = [.msg [0x05, 0x02] 1] ∧ step (presented 1 (.msg [0x05, 0x02] 1)) = .next t :=
  witness_every_event _ (by simp)

/-- A ColorCycle tick may change BASE; the other clauses are met by `witness_every_event`. -/
theorem witness_ControllerStateWriters :
    (∃ t, (presented 6 (.tick 1)).inputs = [.tick 1] ∧ step (presented 6 (.tick 1)) = .next t) ∧ isRejected [] = true ∧
      isRejected [0x00] = true ∧ isRejected [0x04] = false :=
  ⟨⟨_, rfl, rfl⟩, by decide, by decide, by decide⟩

theorem witness_PhaseStateIsOwned :
    (∃ t, (presented 0 (.tick 1)).mode ≠ 2 ∧ (presented 0 (.tick 1)).mode ≠ 3 ∧ (presented 0 (.tick 1)).mode ≠ 4 ∧
      (presented 0 (.tick 1)).mode ≠ 6 ∧ tick Config.device (presented 0 (.tick 1)) = .next t) ∧
    (∃ t, receiveMessage [0x03, 1, 2, 3] State.reset = .next t ∧
      ∀ m, decode [0x03, 1, 2, 3] ≠ .ok (.setmodeB m) ∧ decode [0x03, 1, 2, 3] ≠ .ok (.setmodeA m)) :=
  ⟨⟨_, by decide, by decide, by decide, by decide, rfl⟩, ⟨_, rfl, fun m => ⟨nofun, nofun⟩⟩⟩

theorem witness_ModesIgnoreUnusedRegisters :
    (∃ t, tick Config.device (presented 2 (.tick 1)) = .next t) ∧ (∃ t, tick Config.device (presented 0 (.tick 1)) = .next t) :=
  ⟨⟨_, rfl⟩, ⟨_, rfl⟩⟩

/-- A step that completes, one that is stuck and one that is refused. -/
theorem witness_NothingReadsConn :
    (∃ t, step (presented 1 (.connect 0)) = .next t) ∧ (∃ r, step (presented 9 (.tick 0)) = .refused r) ∧
      (∃ bytes : List Byte, step (presented 0 (.msg bytes 0)) = .fault .messageTooLong) :=
  ⟨⟨_, rfl⟩, ⟨_, rfl⟩, List.replicate (Config.device.MSG_MAX + 1) 0, by
    simp [step, takeNext, presented, takeEvent, afterReset, receiveMessage, State.reset, State.initial]⟩

theorem witness_FormatsLeaveSameState : (0x03 : Byte) ≠ 0 ∧ ([1, 2, 3] : List Byte).length + 2 ≤ Config.device.MSG_MAX :=
  ⟨by decide, Config.device_valid.MSG_MAX_ge⟩

theorem witness_FramesAndRecordsPerEvent :
    ∃ t, (presented 1 (.tick 1)).inputs = [.tick 1] ∧ Event.tick 1 ≠ .reset ∧ step (presented 1 (.tick 1)) = .next t :=
  ⟨_, rfl, by decide, rfl⟩

/-- A PING, after which REPLY differs. -/
theorem witness_HistoriesOnlyGrow :
    ∃ t, (presented 1 (.msg [0xAA] 1)).inputs = [.msg [0xAA] 1] ∧ step (presented 1 (.msg [0xAA] 1)) = .next t ∧
      t.reply ≠ (presented 1 (.msg [0xAA] 1)).reply :=
  ⟨_, rfl, rfl, List.cons_ne_nil _ _⟩

end Sys2Proof.Tests
end

/-! ## Proofs: state

Who writes Controller State (10_state.md R26) and who owns phase state (R33): the facts about steps, ticks and messages that the
two statements are assembled from. -/
namespace Sys2Proof.Machine

/-! The step, read from its event. -/

theorem step_eq_takeEvent {s : State} {e : Event} {rest : List Event} (h : s.inputs = e :: rest) :
    step s = takeEvent e rest s := by
  unfold step takeNext
  rw [h]

/-! A tick and Controller State: only the ColorCycle update writes any of it (10_state.md R26). -/

@[simp] theorem cycled_mode (p : Params) (s : State) : (cycled p s).mode = s.mode := by
  unfold cycled; split <;> rfl

@[simp] theorem cycled_music (p : Params) (s : State) : (cycled p s).music = s.music := by
  unfold cycled; split <;> rfl

@[simp] theorem cycled_bright (p : Params) (s : State) : (cycled p s).bright = s.bright := by
  unfold cycled; split <;> rfl

@[simp] theorem cycled_conn (p : Params) (s : State) : (cycled p s).conn = s.conn := by
  unfold cycled; split <;> rfl

theorem cycled_not_due {p : Params} {s : State} (h : cycleDue p s ≠ true) : cycled p s = s := if_neg h

theorem tick_keeps_mode_music_bright_conn {p : Params} {s t : State} (h : tick p s = .next t) :
    t.mode = s.mode ∧ t.music = s.music ∧ t.bright = s.bright ∧ t.conn = s.conn := by
  rcases tick_cases h with ⟨-, rfl⟩ | ⟨-, rfl⟩ | ⟨-, rfl⟩ | ⟨-, rfl⟩ | ⟨-, rfl⟩ | ⟨-, rfl⟩ | ⟨-, rfl⟩
  case inr.inr.inr.inr.inr.inr => simp [emitFrame_eq, renderColorCycle]
  all_goals exact ⟨rfl, rfl, rfl, rfl⟩

theorem tick_changes_base_only_when_cycle_due {p : Params} {s t : State} (h : tick p s = .next t) (hbase : t.base ≠ s.base) :
    s.mode = 6 ∧ cycleDue p s = true := by
  rcases tick_cases h with ⟨-, rfl⟩ | ⟨-, rfl⟩ | ⟨-, rfl⟩ | ⟨-, rfl⟩ | ⟨-, rfl⟩ | ⟨-, rfl⟩ | ⟨hm, rfl⟩
  case inr.inr.inr.inr.inr.inr =>
    refine ⟨hm, by_contra fun hdue => hbase ?_⟩
    show (cycled p s).base = s.base
    rw [cycled_not_due hdue]
  all_goals exact absurd rfl hbase

/-! A message and Controller State. -/

/-- No instruction writes CONN (10_state.md R25). -/
theorem exec_conn {i : Instr} {s t : State} (h : exec i s = .next t) : t.conn = s.conn := by
  rcases exec_cases h with ⟨f, op, rfl⟩ | ⟨f, op, u, rfl, ⟨px, rfl⟩ | rfl | ⟨m, rfl⟩ | ⟨v, rfl⟩ | ⟨v, rfl⟩ | rfl⟩
  case inr.inr.inl => simp [accept, turnOff, immediateRender_eq]
  case inr.inr.inr.inl => simp [accept]
  all_goals rfl

theorem exec_undefined_opcode {i : Instr} (h : isDefinedOpcode i.opcode = false) (s : State) :
    exec i s = .next (rejectUnknown i.format i.opcode s) := by
  cases i
  case unknownB | unknownA => rfl
  all_goals simp [isDefinedOpcode, definedOpcodes, Instr.opcode] at h

/-- A rejected message raises its rejection and does nothing else (60_exceptions.md R175). -/
theorem receiveMessage_rejected {bytes : List Byte} {s t : State} (hrej : isRejected bytes = true)
    (h : receiveMessage bytes s = .next t) : ∃ outcome f op, t = raiseRejection outcome f op s := by
  unfold isRejected at hrej
  obtain ⟨-, ⟨i, hi, he⟩ | ⟨why, -, rfl⟩⟩ := receiveMessage_cases h
  · rw [hi] at hrej
    rw [exec_undefined_opcode (by simpa using hrej)] at he
    exact ⟨_, _, _, (Host.Outcome.next.inj he).symm⟩
  · cases why <;> exact ⟨_, _, _, rfl⟩

theorem receiveMessage_conn {bytes : List Byte} {s t : State} (h : receiveMessage bytes s = .next t) : t.conn = s.conn := by
  obtain ⟨-, ⟨i, -, he⟩ | ⟨why, -, rfl⟩⟩ := receiveMessage_cases h
  · exact exec_conn he
  · cases why <;> rfl

/-- Settles O45: each event's writes, read off what a tick, `Connect`, `Disconnect` and a message can do. -/
theorem controllerStateWriters : Obligations.ControllerStateWriters := by
  intro s t e rest hin hstep
  rw [step_eq_takeEvent hin] at hstep
  refine ⟨?tick, ?connect, ?disconnect, ?msg⟩
  case tick =>
    rintro now rfl
    obtain ⟨-, htick⟩ := afterReset_next hstep
    obtain ⟨hmode, hmusic, hbright, hconn⟩ := tick_keeps_mode_music_bright_conn htick
    exact ⟨hmode, hmusic, hbright, hconn, tick_changes_base_only_when_cycle_due htick⟩
  case connect =>
    rintro now rfl
    obtain ⟨-, ht⟩ := afterReset_next hstep
    cases ht
    simp [connect_eq, sendFrames_eq]
  case disconnect =>
    rintro now rfl
    obtain ⟨-, ht⟩ := afterReset_next hstep
    cases ht
    simp [disconnect, immediateRender_eq, clearConnected]
  case msg =>
    rintro bytes now rfl
    obtain ⟨-, hmsg⟩ := afterReset_next hstep
    refine ⟨(receiveMessage_conn hmsg).trans (State.takeInput_conn s rest now), fun hrej => ?_⟩
    obtain ⟨outcome, f, op, rfl⟩ := receiveMessage_rejected hrej hmsg
    exact ⟨rfl, rfl, rfl, rfl⟩

/-! Phase state (10_state.md R33): the six registers, the mode that owns each, and that everything else leaves them alone. -/

/-- The phase registers (10_state.md R27 to R32). -/
inductive PhaseReg where
  | hue
  | breath
  | chasePos
  | pulse
  | cycLast
  | cycHue

namespace PhaseReg

/-- The mode a phase register belongs to (10_state.md R33). -/
def owner : PhaseReg → BitVec 8
  | hue => 2
  | breath => 3
  | chasePos => 4
  | pulse => 4
  | cycLast => 6
  | cycHue => 6

/-- The register's value. -/
def read (s : State) : PhaseReg → Nat
  | hue => s.hue
  | breath => s.breath
  | chasePos => s.chasePos
  | pulse => s.pulse
  | cycLast => s.cycLast
  | cycHue => s.cycHue

/-- The register written. -/
def write (v : Nat) (s : State) : PhaseReg → State
  | hue => s.setHue v
  | breath => s.setBreath v
  | chasePos => s.setChasePos v
  | pulse => s.setPulse v
  | cycLast => s.setCycLast v
  | cycHue => s.setCycHue v

@[simp] theorem write_mode (reg : PhaseReg) (v : Nat) (s : State) : (reg.write v s).mode = s.mode := by
  cases reg <;> rfl

end PhaseReg

/-- The renderer of a named mode (41_effect_engine.md R110); a reserved mode has none. -/
def renderer (p : Params) (m : BitVec 8) : Option (State → State) :=
  match m.toNat with
  | 0 => some (renderOff p)
  | 1 => some (renderStatic p)
  | 2 => some (renderRainbow p)
  | 3 => some (renderBreathing p)
  | 4 => some (renderChase p)
  | 5 => some (renderMusic p)
  | 6 => some (renderColorCycle p)
  | _ => none

/-- A tick completes where its mode has a renderer, with that renderer and one frame (41_effect_engine.md R110). -/
theorem tick_next_iff {p : Params} {s t : State} :
    tick p s = .next t ↔ ∃ render, renderer p s.mode = some render ∧ emitFrame p (render s) = t := by
  unfold tick renderer
  split
  case h_8 => simp
  all_goals simp only [*, Host.Outcome.next.injEq, Option.some.injEq, exists_eq_left']

theorem emitFrame_write (p : Params) (reg : PhaseReg) (v : Nat) (s : State) :
    emitFrame p (reg.write v s) = reg.write v (emitFrame p s) := by
  cases reg <;> rfl

theorem cycled_write (p : Params) {reg : PhaseReg} (h : reg.owner ≠ 6) (v : Nat) (s : State) :
    cycled p (reg.write v s) = reg.write v (cycled p s) := by
  have hdue : cycleDue p (reg.write v s) = cycleDue p s := by
    cases reg
    case cycLast | cycHue => exact absurd rfl h
    all_goals rfl
  unfold cycled
  rw [hdue]
  split
  · cases reg
    case cycLast | cycHue => exact absurd rfl h
    all_goals rfl
  · rfl

/-- A renderer commutes with a write of another mode's phase register: it neither reads nor writes it (10_state.md R33). -/
theorem renderer_write {p : Params} {m : BitVec 8} {render : State → State} (hr : renderer p m = some render)
    {reg : PhaseReg} (hm : m ≠ reg.owner) (v : Nat) (s : State) :
    render (reg.write v s) = reg.write v (render s) := by
  unfold renderer at hr
  split at hr
  case h_1 | h_2 | h_6 => cases hr; cases reg <;> rfl
  case h_3 hmode =>
    cases hr; cases reg
    case hue => exact absurd (BitVec.eq_of_toNat_eq hmode) hm
    all_goals rfl
  case h_4 hmode =>
    cases hr; cases reg
    case breath => exact absurd (BitVec.eq_of_toNat_eq hmode) hm
    all_goals rfl
  case h_5 hmode =>
    cases hr; cases reg
    case chasePos | pulse => exact absurd (BitVec.eq_of_toNat_eq hmode) hm
    all_goals rfl
  case h_7 hmode =>
    cases hr
    have hmode6 : m = 6 := BitVec.eq_of_toNat_eq hmode
    have howner : reg.owner ≠ 6 := fun h => hm (hmode6.trans h.symm)
    show (cycled p (reg.write v s)).fill p _ = _
    rw [renderColorCycle, cycled_write p howner]
    cases reg <;> rfl
  case h_8 => cases hr

/-- A tick commutes with a write of another mode's phase register (10_state.md R33). -/
theorem tick_write {p : Params} {s t : State} (h : tick p s = .next t) {reg : PhaseReg} (hm : s.mode ≠ reg.owner) (v : Nat) :
    tick p (reg.write v s) = .next (reg.write v t) := by
  obtain ⟨render, hr, rfl⟩ := tick_next_iff.mp h
  refine tick_next_iff.mpr ⟨render, by rwa [PhaseReg.write_mode], ?_⟩
  rw [renderer_write hr hm, emitFrame_write]

/-- Two states hold the same phase state. -/
def SamePhase (s t : State) : Prop := ∀ reg : PhaseReg, reg.read t = reg.read s

theorem samePhase_iff {s t : State} :
    SamePhase s t ↔ t.hue = s.hue ∧ t.breath = s.breath ∧ t.chasePos = s.chasePos ∧ t.pulse = s.pulse ∧
      t.cycLast = s.cycLast ∧ t.cycHue = s.cycHue := by
  constructor
  · exact fun h => ⟨h .hue, h .breath, h .chasePos, h .pulse, h .cycLast, h .cycHue⟩
  · rintro ⟨hhue, hbreath, hpos, hpulse, hlast, hcyc⟩ (_ | _ | _ | _ | _ | _) <;> assumption

/-- "An immediate render advances no phase register" (10_state.md R33). -/
theorem samePhase_immediateRender (p : Params) (px : Pixel) (s : State) : SamePhase s (immediateRender p px s) := by
  intro reg; cases reg <;> rfl

theorem samePhase_setColor (p : Params) (px : Pixel) (s : State) : SamePhase s (setColor p px s) := by
  intro reg; cases reg <;> rfl

/-- OFF sets a mode that owns no phase register (10_state.md R34). -/
theorem samePhase_turnOff (p : Params) (s : State) : SamePhase s (turnOff p s) := by
  intro reg
  unfold turnOff
  rw [samePhase_immediateRender, show setModeTo p 0 s = s.setMode 0 from setModeTo_zero p s]
  cases reg <;> rfl

theorem SamePhase.accept {s t : State} (h : SamePhase s t) (f : Format) (op : Byte) :
    SamePhase s (Machine.accept f op t) := by
  intro reg
  rw [← h reg]
  cases reg <;> rfl

theorem samePhase_setModeTo_or_mode_changes (p : Params) (m : Byte) (s : State) :
    SamePhase s (setModeTo p m s) ∨ (setModeTo p m s).mode ≠ s.mode := by
  by_cases hm : m = s.mode
  · left
    rw [hm, setModeTo_same]
    exact fun _ => rfl
  · right
    rwa [setModeTo_mode]

/-- An instruction keeps phase state, or it is a SETMODE that changes the mode (10_state.md R33). -/
theorem exec_samePhase_or_setmode {i : Instr} {s t : State} (h : exec i s = .next t) :
    SamePhase s t ∨ ((∃ m, i = .setmodeB m ∨ i = .setmodeA m) ∧ t.mode ≠ s.mode) := by
  cases i with
  | setcolorB r g b | setcolorA r g b => cases h; exact .inl ((samePhase_setColor _ _ _).accept _ _)
  | offB | offA => cases h; exact .inl ((samePhase_turnOff _ _).accept _ _)
  | setmodeB m | setmodeA m =>
    cases h
    rcases samePhase_setModeTo_or_mode_changes Config.device m s with hsame | hmode
    · exact .inl (hsame.accept _ _)
    · exact .inr ⟨⟨m, by simp⟩, hmode⟩
  | setmusicB v | setmusicA v | setbrightB v | setbrightA v | pingB | pingA | unknownB op | unknownA op =>
    cases h
    left; intro reg; cases reg <;> rfl

/-- A message keeps phase state unless it is a SETMODE that changes the mode (10_state.md R33). -/
theorem receiveMessage_samePhase {bytes : List Byte} {s t : State} (h : receiveMessage bytes s = .next t)
    (hmode : t.mode = s.mode ∨ ∀ m, decode bytes ≠ .ok (.setmodeB m) ∧ decode bytes ≠ .ok (.setmodeA m)) : SamePhase s t := by
  obtain ⟨-, ⟨i, hi, he⟩ | ⟨why, -, rfl⟩⟩ := receiveMessage_cases h
  · rcases exec_samePhase_or_setmode he with hsame | ⟨⟨m, hset⟩, hchange⟩
    · exact hsame
    · rcases hmode with hkeep | hother
      · exact absurd hkeep hchange
      · obtain ⟨hB, hA⟩ := hother m
        rcases hset with rfl | rfl
        · exact absurd hi hB
        · exact absurd hi hA
  · intro reg
    cases why <;> cases reg <;> rfl

/-- Settles O46: a tick commutes with a foreign phase write, and messages and the immediate render keep phase state. -/
theorem phaseStateIsOwned : Obligations.PhaseStateIsOwned := by
  refine ⟨fun s t v h => ?tick, fun s t bytes h hmode => ?msg, fun p px s => ?immediate⟩
  case tick =>
    exact ⟨fun hm => tick_write (reg := .hue) h hm v, fun hm => tick_write (reg := .breath) h hm v,
      fun hm => tick_write (reg := .chasePos) h hm v, fun hm => tick_write (reg := .pulse) h hm v,
      fun hm => tick_write (reg := .cycLast) h hm v, fun hm => tick_write (reg := .cycHue) h hm v⟩
  case msg => exact samePhase_iff.mp (receiveMessage_samePhase h hmode)
  case immediate => exact samePhase_iff.mp (samePhase_immediateRender p px s)

end Sys2Proof.Machine

/-! ## Proofs: command decoder

The rejection of an opcode that is none of the six (40_command_decoder.md R97): what the instruction of either format does and
which messages decode to it. -/
namespace Sys2Proof.Machine

theorem isDefinedOpcode_eq_false_iff (op : Byte) : isDefinedOpcode op = false ↔ op ∉ definedOpcodes := by
  simp [isDefinedOpcode]

theorem rejectUnknown_eq (f : Format) (op : Byte) (s : State) :
    rejectUnknown f op s = { s with status := s.status ++ [⟨.unknownOpcode, some f, some op⟩] } :=
  raiseRejection_eq .unknownOpcode (some f) (some op) s

/-- Settles O21: both instructions are the rejection, and both framings lead to the last arm of the case on the opcode. -/
theorem unknownOpcodeIsRejected : Obligations.UnknownOpcodeIsRejected := by
  intro op hop
  have hundef : isDefinedOpcode op = false := (isDefinedOpcode_eq_false_iff op).mpr hop
  refine ⟨fun s => ⟨?execB, ?execA⟩, fun payload => ?decodeA, fun payload hzero => ?decodeB⟩
  case execB =>
    rw [exec_undefined_opcode (i := .unknownB op) hundef, rejectUnknown_eq]
    rfl
  case execA =>
    rw [exec_undefined_opcode (i := .unknownA op) hundef, rejectUnknown_eq]
    rfl
  case decodeA => rw [decode_formatA, decodeBody_unknown hundef]; rfl
  case decodeB => rw [decode_formatB_of hzero, decodeBody_unknown hundef]; rfl

end Sys2Proof.Machine

/-! ## Proofs: frame renderer

The brightness scaler (42_frame_renderer.md R141) acts on each channel alone, and at brightness 100 or less its quotient is a channel
value, so the width of a channel loses nothing. -/
namespace Sys2Proof.Machine

theorem channel_scale (px : Pixel) (b : BitVec 7) (c : Channel) :
    (scale px b).channel c = channelOfNat ((px.channel c).toNat * b.toNat / 100) := by
  cases c <;> rfl

theorem channel_scale_toNat (px : Pixel) {b : BitVec 7} (hb : b.toNat ≤ 100) (c : Channel) :
    ((scale px b).channel c).toNat = (px.channel c).toNat * b.toNat / 100 := by
  have hproduct : (px.channel c).toNat * b.toNat ≤ 255 * 100 :=
    Nat.mul_le_mul (Nat.le_of_lt_succ (px.channel c).isLt) hb
  rw [channel_scale, channelOfNat_toNat (Nat.div_le_of_le_mul (by omega))]

/-- Settles O22: the floor channel by channel, then the two ends of the brightness range. -/
theorem scaleTruncates : Obligations.ScaleTruncates := by
  refine ⟨fun px b hb => ?floor, scale_full, scale_dark⟩
  case floor =>
    have hfloor := channel_scale_toNat px hb
    exact ⟨hfloor .r, hfloor .g, hfloor .b⟩

end Sys2Proof.Machine

/-! ## Proofs: exceptions

MalformedMessage (60_exceptions.md R171): the messages the decoder rejects, read from their framing and their body, and the record
the rejection leaves. -/
namespace Sys2Proof.Machine

/-! Framing: a message is empty, or a format's prefix, an opcode and a payload. -/

theorem message_nil_or_framed (bytes : List Byte) :
    bytes = [] ∨ ∃ (f : Format) (op : Byte) (payload : List Byte),
      bytes = f.leadBytes ++ op :: payload ∧ decode bytes = decodeBody f op payload := by
  rcases message_cases bytes with hnil | ⟨op, payload, rfl⟩ | ⟨op, payload, rfl, hzero⟩
  · exact .inl hnil
  · exact .inr ⟨.A, op, payload, rfl, decode_formatA op payload⟩
  · exact .inr ⟨.B, op, payload, rfl, decode_formatB_of hzero⟩

theorem decode_leadBytes_append {op : Byte} (hop : op ≠ 0x00) (f : Format) (payload : List Byte) :
    decode (f.leadBytes ++ op :: payload) = decodeBody f op payload := by
  cases f with
  | A => exact decode_formatA op payload
  | B => exact decode_formatB hop payload

/-! Bodies: the converse of `decodeBody_error`, for each of the two minimum lengths. -/

theorem decodeBody_setcolor_short {payload : List Byte} (hshort : payload.length < 3) (f : Format) :
    decodeBody f 0x03 payload = .error (.short f 0x03) := by
  match payload, hshort with
  | [], _ | [_], _ | [_, _], _ => rfl

theorem decodeBody_operand_missing {op : Byte} (hop : op = 0x05 ∨ op = 0x06 ∨ op = 0x07) (f : Format) :
    decodeBody f op [] = .error (.short f op) := by
  rcases hop with rfl | rfl | rfl <;> rfl

/-! The record (60_exceptions.md R171, R175). -/

theorem rejectMalformed_empty (s : State) :
    rejectMalformed .empty s = { s with status := s.status ++ [⟨.malformedMessage, none, none⟩] } :=
  raiseRejection_eq .malformedMessage none none s

theorem rejectMalformed_short (f : Format) (op : Byte) (s : State) :
    rejectMalformed (.short f op) s = { s with status := s.status ++ [⟨.malformedMessage, some f, some op⟩] } :=
  raiseRejection_eq .malformedMessage (some f) (some op) s

/-- Settles O5: a rejected message is empty or framed with a short body; none of the four opcodes is 0, so in each case the framing
leads back to that body. -/
theorem malformedInExactlyTwoCases : Obligations.MalformedInExactlyTwoCases := by
  refine ⟨fun bytes why => ⟨fun herror => ?rejected, ?malformed⟩, rejectMalformed_empty, rejectMalformed_short⟩
  case rejected =>
    rcases message_nil_or_framed bytes with rfl | ⟨f, op, payload, hbytes, hdecode⟩
    · exact .inl ⟨rfl, (Except.error.inj herror).symm⟩
    · obtain ⟨hwhy, -, ⟨rfl, hshort⟩ | ⟨hop, rfl⟩⟩ := decodeBody_error (hdecode.symm.trans herror)
      · exact .inr (.inl ⟨f, payload, hbytes, hshort, hwhy⟩)
      · exact .inr (.inr ⟨f, op, hop, hbytes, hwhy⟩)
  case malformed =>
    rintro (⟨rfl, rfl⟩ | ⟨f, payload, rfl, hshort, rfl⟩ | ⟨f, op, hop, rfl, rfl⟩)
    · exact decode_nil
    · rw [decode_leadBytes_append (by decide), decodeBody_setcolor_short hshort]
    · have hnonzero : op ≠ 0x00 := by rcases hop with rfl | rfl | rfl <;> decide
      rw [decode_leadBytes_append hnonzero, decodeBody_operand_missing hop]

end Sys2Proof.Machine

/-! ## Proofs: encoding

The decoder and the encoder are inverse, and the decoder agrees with the opcode table (30_encoding.md R71 to R88). A message is
framed: a format's leading bytes, an opcode, a payload; only the opcode 0 of Format B must stand alone (R79). -/
namespace Sys2Proof.Machine

/-! Framing, in the two directions. -/

theorem resolveFraming_framed {f : Format} {op : Byte} {payload : List Byte} (h : f = .B → op = 0x00 → payload = []) :
    resolveFraming (f.leadBytes ++ op :: payload) = some (f, op, payload) := by
  cases f with
  | A => rfl
  | B =>
    cases payload with
    | nil => rfl
    | cons b rest => exact if_neg fun h0 => List.cons_ne_nil b rest (h rfl h0)

theorem decode_framed {f : Format} {op : Byte} {payload : List Byte} (h : f = .B → op = 0x00 → payload = []) :
    decode (f.leadBytes ++ op :: payload) = decodeBody f op payload := by
  unfold decode
  rw [resolveFraming_framed h]

theorem nil_or_framed (bytes : List Byte) :
    bytes = [] ∨ ∃ (f : Format) (op : Byte) (payload : List Byte),
      bytes = f.leadBytes ++ op :: payload ∧ (f = .B → op = 0x00 → payload = []) := by
  rcases message_cases bytes with hnil | ⟨op, payload, rfl⟩ | ⟨op, payload, rfl, hzero⟩
  · exact .inl hnil
  · exact .inr ⟨.A, op, payload, rfl, nofun⟩
  · exact .inr ⟨.B, op, payload, rfl, fun _ => hzero⟩

/-! Bodies. -/

theorem wf_unknownB {op : Byte} : (Instr.unknownB op).wf = true ↔ isDefinedOpcode op = false := by simp [Instr.wf]

theorem wf_unknownA {op : Byte} : (Instr.unknownA op).wf = true ↔ isDefinedOpcode op = false := by simp [Instr.wf]

theorem decodeBody_of_wf {i : Instr} (h : i.wf = true) (trailing : List Byte) :
    decodeBody i.format i.opcode (i.operands ++ trailing) = .ok i := by
  cases i with
  | unknownB op => exact decodeBody_unknown (wf_unknownB.mp h) .B trailing
  | unknownA op => exact decodeBody_unknown (wf_unknownA.mp h) .A trailing
  | _ => rfl

theorem encode_append (i : Instr) (trailing : List Byte) :
    encode i ++ trailing = i.format.leadBytes ++ i.opcode :: (i.operands ++ trailing) := by
  simp [encode]

/-- The one instruction of Format B with opcode 0 (30_encoding.md R79). -/
theorem eq_unknownB_zero {i : Instr} (hf : i.format = .B) (hop : i.opcode = 0x00) : i = .unknownB 0x00 := by
  cases i with
  | unknownB op => exact congrArg Instr.unknownB hop
  | setcolorB | offB | setmodeB | setmusicB | setbrightB | pingB => cases hop
  | _ => cases hf

/-- Settles O2: the encoding is framed, and its body is the instruction's opcode and operands. -/
theorem decodeOfEncode : Obligations.DecodeOfEncode := by
  intro i trailing hwf hlone
  have halone : i.format = .B → i.opcode = 0x00 → i.operands ++ trailing = [] := by
    intro hf hop
    obtain rfl := eq_unknownB_zero hf hop
    exact hlone rfl
  rw [encode_append, decode_framed halone, decodeBody_of_wf hwf]

/-- Settles O3: an accepted message is framed, and its payload begins with the operands. -/
theorem decodeOnlyOfEncode : Obligations.DecodeOnlyOfEncode := by
  intro bytes i hi
  rcases nil_or_framed bytes with rfl | ⟨f, op, payload, rfl, halone⟩
  · cases hi
  · rw [decode_framed halone] at hi
    obtain ⟨hwf, rfl, rfl, trailing, rfl⟩ := decodeBody_ok hi
    refine ⟨hwf, trailing, (encode_append i trailing).symm, ?_⟩
    rintro rfl
    exact halone rfl rfl

/-! The opcode table (30_encoding.md R88): the row of a format and an opcode, whatever the payload. -/

/-- The row that the first bytes of a message select: the row that is no default if one matches, else the default row. -/
def tableRow (f : Format) (op : Byte) : Option Row :=
  ((rowsFor f).find? fun row => !row.isDefault && row.matchesFirst (f.leadBytes ++ [op])).or
    ((rowsFor f).find? fun row => row.isDefault && row.matchesFirst (f.leadBytes ++ [op]))

/-- Every format and opcode has a row, whose minimum length counts the leading bytes, the opcode and the minimum payload. -/
theorem tableRow_minLen (f : Format) (op : Byte) :
    (tableRow f op).map Row.minLen = some (f.leadBytes.length + 1 + minPayload op) := by
  cases f <;> revert op <;> decide

theorem tableRow_undefined_mnemonic {op : Byte} (h : isDefinedOpcode op = false) (f : Format) :
    (tableRow f op).map Row.mnemonic = some (f.pick (.unknownA op) (.unknownB op)).mnemonic := by
  cases f <;> revert op <;> decide

theorem tableRow_mnemonic {i : Instr} (h : i.wf = true) :
    (tableRow i.format i.opcode).map Row.mnemonic = some i.mnemonic := by
  cases i with
  | unknownB op => exact tableRow_undefined_mnemonic (wf_unknownB.mp h) .B
  | unknownA op => exact tableRow_undefined_mnemonic (wf_unknownA.mp h) .A
  | _ =>
    simp only [Instr.format, Instr.opcode, Instr.mnemonic]
    decide

theorem minLen_of_default {f : Format} {row : Row} (h : row ∈ rowsFor f) (hd : row.isDefault = true) :
    row.minLen = f.leadBytes.length + 1 := by
  revert row
  cases f <;> decide

theorem matchBytes_of_mem {f : Format} {row : Row} (h : row ∈ rowsFor f) : row.matchBytes = f.leadBytes.length + 1 := by
  revert row
  cases f <;> decide

theorem matchesFirst_framed {f : Format} {row : Row} (h : row ∈ rowsFor f) (op : Byte) (payload : List Byte) :
    row.matchesFirst (f.leadBytes ++ op :: payload) = row.matchesFirst (f.leadBytes ++ [op]) := by
  unfold Row.matchesFirst
  rw [matchBytes_of_mem h]
  cases f <;> rfl

theorem find?_framed (f : Format) (op : Byte) (payload : List Byte) (q : Row → Bool) :
    (rowsFor f).find? (fun row => q row && row.matchesFirst (f.leadBytes ++ op :: payload)) =
      (rowsFor f).find? (fun row => q row && row.matchesFirst (f.leadBytes ++ [op])) :=
  List.find?_congr fun row hrow => by rw [matchesFirst_framed hrow]

/-- A framed message selects the row of its format and opcode, if its payload is long enough. -/
theorem selectRow_framed {f : Format} {op : Byte} {payload : List Byte} (h : f = .B → op = 0x00 → payload = []) :
    selectRow (f.leadBytes ++ op :: payload) = if minPayload op ≤ payload.length then tableRow f op else none := by
  have hmin := tableRow_minLen f op
  have hlen : (f.leadBytes ++ op :: payload).length = f.leadBytes.length + 1 + payload.length := by
    simp only [List.length_append, List.length_cons]
    omega
  unfold selectRow
  rw [resolveFraming_framed h]
  simp only [find?_framed, hlen, tableRow] at hmin ⊢
  split
  case h_1 row hrow =>
    rw [hrow] at hmin ⊢
    obtain hrowLen : row.minLen = _ := Option.some.inj hmin
    rw [hrowLen, Option.some_or]
    exact if_congr (Nat.add_le_add_iff_left ..) rfl rfl
  case h_2 hnone =>
    rw [hnone, Option.none_or] at hmin ⊢
    obtain ⟨row, hrow, hrowLen⟩ := Option.map_eq_some_iff.mp hmin
    obtain ⟨hdefault, -⟩ := Bool.and_eq_true_iff.mp (List.find?_some (p := fun _ => _ && _) hrow)
    rw [minLen_of_default (List.mem_of_find?_eq_some hrow) hdefault] at hrowLen
    rw [if_pos (by omega)]

theorem minPayload_undefined {op : Byte} (h : isDefinedOpcode op = false) : minPayload op = 0 := by
  revert op
  decide

theorem minPayload_le_of_wf {i : Instr} (h : i.wf = true) : minPayload i.opcode ≤ i.operands.length := by
  cases i with
  | unknownB op => exact le_of_eq (minPayload_undefined (wf_unknownB.mp h))
  | unknownA op => exact le_of_eq (minPayload_undefined (wf_unknownA.mp h))
  | _ => exact le_refl _

/-- Settles O4: a framed message selects its row exactly when its body is accepted. -/
theorem decoderAgreesWithOpcodeTable : Obligations.DecoderAgreesWithOpcodeTable := by
  intro bytes
  rcases nil_or_framed bytes with rfl | ⟨f, op, payload, rfl, halone⟩
  · rfl
  · rw [selectRow_framed halone, decode_framed halone]
    cases hbody : decodeBody f op payload with
    | ok i =>
      obtain ⟨hwf, rfl, rfl, trailing, rfl⟩ := decodeBody_ok hbody
      have hlong : minPayload i.opcode ≤ (i.operands ++ trailing).length :=
        (minPayload_le_of_wf hwf).trans (by simp)
      rw [if_pos hlong, tableRow_mnemonic hwf]
      rfl
    | error why =>
      obtain ⟨-, hshort, -⟩ := decodeBody_error hbody
      rw [if_neg (Nat.not_le.mpr hshort)]
      rfl

/-! Consequences for single messages. -/

/-- Settles O1: each message is evaluated. -/
theorem writtenWordsDecode : Obligations.WrittenWordsDecode := ⟨rfl, rfl, rfl, rfl, rfl, rfl, rfl, rfl⟩

/-- Settles O6: opcode 0 is undefined, and a zero with a byte after it is the lead of Format A. -/
theorem opcodeZeroUnusable : Obligations.OpcodeZeroUnusable := by
  refine ⟨rfl, fun payload => rfl, fun op payload i hi => ?_⟩
  rw [decode_formatA] at hi
  obtain ⟨-, hformat, hopcode, -⟩ := decodeBody_ok hi
  exact ⟨hformat, hopcode⟩

end Sys2Proof.Machine

/-! ## Proofs: the step, event by event

What a step answers for each kind of next event (00_scope.md R12, 40_command_decoder.md R90), as equations, and what an instruction
does as its effect and its record: the forms the statements about single events are read from. -/
namespace Sys2Proof.Machine

/-! The kinds of event. -/

theorem step_of_no_input {s : State} (h : s.inputs = []) : step s = .next s := by
  unfold step takeNext
  rw [h]

theorem afterReset_of_wasReset {s : State} (hw : s.wasReset = true) (o : Host.Outcome State Fault Refusal) :
    afterReset s o = o := if_pos hw

theorem afterReset_of_not_wasReset {s : State} (hw : s.wasReset = false) (o : Host.Outcome State Fault Refusal) :
    afterReset s o = .refused .eventBeforeReset := by
  simp [afterReset, hw]

theorem step_reset {s : State} {rest : List Event} (hin : s.inputs = .reset :: rest) :
    step s = .next (applyReset Config.device (s.takeInput rest s.now)) := step_eq_takeEvent hin

section
variable {s : State} {rest : List Event} {now : Nat} (hw : s.wasReset = true)
include hw

theorem step_msg {bytes : List Byte} (hin : s.inputs = .msg bytes now :: rest) :
    step s = receiveMessage bytes (s.takeInput rest now) :=
  (step_eq_takeEvent hin).trans (afterReset_of_wasReset hw _)

theorem step_tick (hin : s.inputs = .tick now :: rest) : step s = tick Config.device (s.takeInput rest now) :=
  (step_eq_takeEvent hin).trans (afterReset_of_wasReset hw _)

theorem step_connect (hin : s.inputs = .connect now :: rest) :
    step s = .next (connect Config.device (s.takeInput rest now)) :=
  (step_eq_takeEvent hin).trans (afterReset_of_wasReset hw _)

theorem step_disconnect (hin : s.inputs = .disconnect now :: rest) :
    step s = .next (disconnect Config.device (s.takeInput rest now)) :=
  (step_eq_takeEvent hin).trans (afterReset_of_wasReset hw _)

/-- A tick in a named mode: its renderer, then one frame (41_effect_engine.md R110). -/
theorem step_tick_of_renderer {render : State → State} (hin : s.inputs = .tick now :: rest)
    (hr : renderer Config.device s.mode = some render) :
    step s = .next (emitFrame Config.device (render (s.takeInput rest now))) :=
  (step_tick hw hin).trans (tick_next_iff.mpr ⟨render, hr, rfl⟩)

end

/-! A message. -/

theorem receiveMessage_ok {bytes : List Byte} {i : Instr} (hlen : bytes.length ≤ Config.device.MSG_MAX)
    (hi : decode bytes = .ok i) (s : State) : receiveMessage bytes s = exec i s := by
  unfold receiveMessage
  rw [if_pos hlen, hi]

theorem receiveMessage_error {bytes : List Byte} {why : Malformed} (hlen : bytes.length ≤ Config.device.MSG_MAX)
    (hw : decode bytes = .error why) (s : State) : receiveMessage bytes s = .next (rejectMalformed why s) := by
  unfold receiveMessage
  rw [if_pos hlen, hw]

theorem receiveMessage_overlong {bytes : List Byte} (hlen : Config.device.MSG_MAX < bytes.length) (s : State) :
    receiveMessage bytes s = .fault .messageTooLong := if_neg (Nat.not_le.mpr hlen)

/-! An instruction: its effect, which the two formats share, then its record (40_command_decoder.md R90 to R97). -/

/-- What an instruction does before its STATUS record. -/
def instrEffect : Instr → State → State
  | .setcolorB r g b | .setcolorA r g b => setColor Config.device ⟨r, g, b⟩
  | .offB | .offA => turnOff Config.device
  | .setmodeB m | .setmodeA m => setModeTo Config.device m
  | .setmusicB v | .setmusicA v => fun s => s.setMusic v
  | .setbrightB v | .setbrightA v => setBrightness v
  | .pingB | .pingA => ping Config.device
  | .unknownB _ | .unknownA _ => id

/-- The outcome in an instruction's STATUS record. -/
def instrOutcome : Instr → MsgOutcome
  | .unknownB _ | .unknownA _ => .unknownOpcode
  | _ => .accepted

theorem exec_eq (i : Instr) (s : State) :
    exec i s = .next ((instrEffect i s).pushStatus ⟨instrOutcome i, some i.format, some i.opcode⟩) := by
  cases i <;> rfl

/-- A message appends one STATUS record to the effect of its instruction, or to the state as it is (60_exceptions.md R173). -/
theorem receiveMessage_effect {bytes : List Byte} {s t : State} (h : receiveMessage bytes s = .next t) :
    (∃ i r, decode bytes = .ok i ∧ t = (instrEffect i s).pushStatus r) ∨
      (∃ why r, decode bytes = .error why ∧ t = s.pushStatus r) := by
  obtain ⟨-, ⟨i, hi, he⟩ | ⟨why, hwhy, rfl⟩⟩ := receiveMessage_cases h
  · rw [exec_eq] at he
    exact .inl ⟨i, _, hi, (Host.Outcome.next.inj he).symm⟩
  · refine .inr ⟨why, ?_⟩
    cases why <;> exact ⟨_, hwhy, rfl⟩

/-! The statements. -/

/-- Settles O7: a reset core hands its next message to the decoded instruction. -/
theorem stepRunsDecodedInstruction : Obligations.StepRunsDecodedInstruction := by
  intro s bytes now rest i hw hin hlen hi
  exact (step_msg hw hin).trans (receiveMessage_ok hlen hi _)

theorem decode_tableMessage {nbits w : Nat} {i : Instr} (h : decodeTableWord nbits w = some i) :
    decode (tableMessage nbits w) = .ok i := by
  unfold decodeTableWord at h
  split at h
  case h_1 j hj => rw [hj, Option.some.inj h]
  case h_2 => cases h

/-- Settles O8: a table word is presented as the next message of a core that has been reset. -/
theorem tableWordRunsNext : Obligations.TableWordRunsNext := by
  intro s nbits w i hi hlen
  exact stepRunsDecodedInstruction (s.withFetchWord nbits w) (tableMessage nbits w) s.now s.inputs i rfl rfl hlen
    (decode_tableMessage hi)

/-- Settles O9: the two malformed cases raise the rejection, the unknown opcode of either format is its instruction. -/
theorem rejectionOnlyRecords : Obligations.RejectionOnlyRecords := by
  intro s bytes now rest hw hin hlen
  rw [step_msg hw hin]
  refine ⟨fun h => ?empty, fun f op h => ?short, fun op h => ?unknownB, fun op h => ?unknownA⟩
  case empty => rw [receiveMessage_error hlen h, rejectMalformed_empty]; rfl
  case short => rw [receiveMessage_error hlen h, rejectMalformed_short]; rfl
  case unknownB | unknownA => rw [receiveMessage_ok hlen h, exec_eq]; rfl

/-- Settles O10: with no event the next one cannot be taken. -/
theorem waitsForAnEvent : Obligations.WaitsForAnEvent := fun _ => step_of_no_input

/-- Settles O11: every event but Reset goes through the test of the flag. -/
theorem onlyResetFollowsNothing : Obligations.OnlyResetFollowsNothing := by
  intro s e rest hw hin
  refine ⟨fun hne => ?other, ?reset⟩
  case other =>
    rw [step_eq_takeEvent hin]
    cases e with
    | reset => exact absurd rfl hne
    | msg | tick | connect | disconnect => exact afterReset_of_not_wasReset hw _
  case reset =>
    rintro rfl
    exact ⟨_, step_reset hin, rfl⟩

/-- Settles O12: the length test comes before decoding. -/
theorem overlongMessageStops : Obligations.OverlongMessageStops := by
  intro s bytes now rest hw hin hlen
  rw [step_msg hw hin, receiveMessage_overlong hlen]

/-! Reset (70_reset_and_hazards.md R200, R201). -/

/-- Settles O13: every register is read off the reset state; the frame buffer holds N black pixels. -/
theorem resetLeavesListedValues : Obligations.ResetLeavesListedValues := by
  have hlength : State.reset.fb.length = Config.device.N := List.length_replicate
  have hblack : ∀ px ∈ State.reset.fb, px = ⟨0, 0, 0⟩ := fun px h => List.eq_of_mem_replicate h
  exact ⟨rfl, rfl, rfl, rfl, rfl, rfl, rfl, rfl, rfl, rfl, rfl, hlength, hblack, rfl, rfl, rfl, rfl⟩

/-- Settles O14: `applyReset` keeps the four fields outside the core and takes the rest from the reset state. -/
theorem resetEventRestoresResetState : Obligations.ResetEventRestoresResetState := fun _ _ => step_reset

end Sys2Proof.Machine

/-! ## Proofs: register ranges

The ranges of 10_state.md R36 as an invariant: each write of a register or of the frame buffer keeps them if its own value is in
range, hence so does each effect of an event. -/
namespace Sys2Proof.Machine

namespace InRange
variable {p : Params} {s : State}

/-! The writes. -/

theorem setMode (h : InRange p s) (m : BitVec 8) : InRange p (s.setMode m) := { h with }
theorem setBase (h : InRange p s) (px : Pixel) : InRange p (s.setBase px) := { h with }
theorem setMusic (h : InRange p s) (v : BitVec 8) : InRange p (s.setMusic v) := { h with }
theorem setConn (h : InRange p s) (c : Bool) : InRange p (s.setConn c) := { h with }
theorem pushReply (h : InRange p s) (msg : List Byte) : InRange p (s.pushReply msg) := { h with }
theorem pushStatus (h : InRange p s) (r : StatusRecord) : InRange p (s.pushStatus r) := { h with }
theorem takeInput (h : InRange p s) (rest : List Event) (now : Nat) : InRange p (s.takeInput rest now) := { h with }
theorem emitFrame (h : InRange p s) : InRange p (emitFrame p s) := { h with }

theorem setBright (h : InRange p s) {v : BitVec 7} (hv : v.toNat ≤ 100) : InRange p (s.setBright v) := { h with bright := hv }
theorem setHue (h : InRange p s) {a : Nat} (ha : a < p.TURN) : InRange p (s.setHue a) := { h with hue := ha }
theorem setBreath (h : InRange p s) {a : Nat} (ha : a < p.TURN) : InRange p (s.setBreath a) := { h with breath := ha }
theorem setChasePos (h : InRange p s) {i : Nat} (hi : i < p.N) : InRange p (s.setChasePos i) := { h with chasePos := hi }
theorem setPulse (h : InRange p s) {a : Nat} (ha : a < p.TURN) : InRange p (s.setPulse a) := { h with pulse := ha }
theorem setCycHue (h : InRange p s) {a : Nat} (ha : a < p.TURN) : InRange p (s.setCycHue a) := { h with cycHue := ha }
theorem setCycLast (h : InRange p s) {t : Nat} (ht : t < 2 ^ p.TIME_BITS) : InRange p (s.setCycLast t) :=
  { h with cycLast := ht }
theorem fill (h : InRange p s) (px : Pixel) : InRange p (s.fill p px) := { h with fbLength := fill_keeps_wf p px s }
theorem paint (h : InRange p s) (f : Nat → Pixel) : InRange p (s.paint p f) := { h with fbLength := paint_keeps_wf p f s }

theorem immediateRender (h : InRange p s) (px : Pixel) : InRange p (immediateRender p px s) := (h.fill px).emitFrame

theorem connect (h : InRange p s) : InRange p (connect p s) := by
  rw [connect_eq, sendFrames_eq]
  exact { h with fbLength := paint_keeps_wf p _ s }

/-! The reset and the effects of the events, on an admissible device. -/

variable (hp : p.Valid)
include hp

theorem initial : InRange p (State.initial p) where
  fbLength := initial_fb_wf p
  bright := le_refl 100
  hue := hp.HUE_INIT_lt
  breath := hp.BREATH_INIT_lt
  chasePos := hp.CHASE_POS_INIT_lt
  pulse := hp.PULSE_INIT_lt
  cycHue := hp.CYC_HUE_INIT_lt
  cycLast := Nat.two_pow_pos _

theorem applyReset (s : State) : InRange p (applyReset p s) := { initial hp with }

theorem resetPhase (h : InRange p s) (m : BitVec 8) : InRange p (resetPhase p m s) := by
  rcases resetPhase_cases p m s with ⟨-, heq⟩ | ⟨-, heq⟩ | ⟨-, heq⟩ | ⟨-, heq⟩ | ⟨-, -, -, -, heq⟩ <;> rw [heq]
  · exact h.setHue hp.HUE_INIT_lt
  · exact h.setBreath hp.BREATH_INIT_lt
  · exact (h.setChasePos hp.CHASE_POS_INIT_lt).setPulse hp.PULSE_INIT_lt
  · exact (h.setCycLast (timeInput_lt p s)).setCycHue hp.CYC_HUE_INIT_lt
  · exact h

theorem setModeTo (h : InRange p s) (m : BitVec 8) : InRange p (setModeTo p m s) := by
  unfold Machine.setModeTo
  split
  · exact h
  · exact (h.setMode m).resetPhase hp m

theorem cycled (h : InRange p s) : InRange p (cycled p s) := by
  unfold Machine.cycled
  split
  · exact ((h.setCycHue (Nat.mod_lt _ (Params.TURN_pos hp))).setBase _).setCycLast (timeInput_lt p s)
  · exact h

theorem tick {t : State} (h : InRange p s) (ht : tick p s = .next t) : InRange p t := by
  have hturn : ∀ a, a % p.TURN < p.TURN := fun a => Nat.mod_lt a (Params.TURN_pos hp)
  rcases tick_cases ht with ⟨-, rfl⟩ | ⟨-, rfl⟩ | ⟨-, rfl⟩ | ⟨-, rfl⟩ | ⟨-, rfl⟩ | ⟨-, rfl⟩ | ⟨-, rfl⟩ <;>
    apply InRange.emitFrame
  · exact h.fill _
  · exact h.fill _
  · exact (h.paint _).setHue (hturn _)
  · exact (h.fill _).setBreath (hturn _)
  · exact ((h.paint _).setChasePos (Nat.mod_lt _ hp.N_pos)).setPulse (hturn _)
  · exact h.paint _
  · exact (h.cycled hp).fill _

theorem disconnect (h : InRange p s) : InRange p (disconnect p s) :=
  ((h.setConn false).setModeTo hp 0).immediateRender _

end InRange

/-- The clamp of SETBRIGHT (30_encoding.md R76): its seven bits hold every clamped value. -/
theorem clampBrightness_toNat (v : Byte) : (clampBrightness v).toNat = min v.toNat 100 := by
  unfold clampBrightness
  rw [BitVec.toNat_ofNat]
  omega

theorem InRange.instrEffect {s : State} (h : InRange Config.device s) (i : Instr) :
    InRange Config.device (instrEffect i s) := by
  cases i with
  | setcolorB r g b | setcolorA r g b => exact ((h.setBase _).setMode _).immediateRender _
  | offB | offA => exact (h.setModeTo Config.device_valid _).immediateRender _
  | setmodeB m | setmodeA m => exact h.setModeTo Config.device_valid m
  | setmusicB v | setmusicA v => exact h.setMusic v
  | setbrightB v | setbrightA v => exact h.setBright ((clampBrightness_toNat v).trans_le (min_le_right _ _))
  | pingB | pingA => exact h.pushReply _
  | unknownB op | unknownA op => exact h

/-- Settles O39: each kind of event keeps the ranges. -/
theorem stepKeepsRanges : Obligations.StepKeepsRanges := by
  intro s t h hstep
  have hp := Config.device_valid
  rcases step_cases hstep with ⟨-, rfl⟩ | ⟨rest, -, rfl⟩ | ⟨bytes, now, rest, -, -, hmsg⟩ | ⟨now, rest, -, -, htick⟩ |
    ⟨now, rest, -, -, rfl⟩ | ⟨now, rest, -, -, rfl⟩
  · exact h
  · exact InRange.applyReset hp _
  · rcases receiveMessage_effect hmsg with ⟨i, r, -, rfl⟩ | ⟨why, r, -, rfl⟩
    · exact ((h.takeInput rest now).instrEffect i).pushStatus r
    · exact (h.takeInput rest now).pushStatus r
  · exact (h.takeInput rest now).tick hp htick
  · exact (h.takeInput rest now).connect
  · exact (h.takeInput rest now).disconnect hp

/-- Settles O42: nothing has been sent at reset, and the device is admissible. -/
theorem resetMeetsInvariants : Obligations.ResetMeetsInvariants :=
  ⟨InRange.initial Config.device_valid, ⟨nofun, nofun⟩, ⟨nofun, fun h => absurd rfl h⟩⟩

end Sys2Proof.Machine

/-! ## Proofs: outputs

What an event other than Reset sends (10_state.md R39, R40, 42_frame_renderer.md R144, R146): frames, replies and STATUS records
are appended, the idle time owed and the strip follow the frames. The shapes, the gaps, the counts and the strip's image are
read off that one relation. -/
namespace Sys2Proof.Machine

/-- What goes out during an event: the bits of the frames, the replies and the STATUS records, each in order. -/
structure Output where
  frames : List (List Bool)
  replies : List (List Byte)
  records : List StatusRecord

/-- The frames as they stand on BUS: the first after the idle time owed, the others after T_LATCH. -/
def sentFrames (p : Params) (latch : Nat) (frames : List (List Bool)) : List BusFrame :=
  List.zipWith BusFrame.mk (latch :: List.replicate frames.length p.T_LATCH) frames

/-- From `s` to `t` exactly this output has been sent. -/
structure Emits (p : Params) (s t : State) (out : Output) : Prop where
  bus : t.bus = s.bus ++ sentFrames p s.latch out.frames
  latch : t.latch = if out.frames = [] then s.latch else p.T_LATCH
  strip : t.strip = out.frames.getLast?.getD s.strip
  reply : t.reply = s.reply ++ out.replies
  status : t.status = s.status ++ out.records

/-- Every frame has `N * 24` bits, every reply REPLY_LEN bytes (42_frame_renderer.md R142, 30_encoding.md R85). -/
structure Output.Shaped (p : Params) (out : Output) : Prop where
  frames : ∀ bits ∈ out.frames, bits.length = p.N * 24
  replies : ∀ msg ∈ out.replies, msg.length = p.REPLY_LEN

/-- Well-shaped output with so many frames and records, and a reply only under the condition `replying`. -/
def Sends (p : Params) (s t : State) (frames records : Nat) (replying : Prop) : Prop :=
  ∃ out : Output, Emits p s t out ∧ out.Shaped p ∧ out.frames.length = frames ∧ out.records.length = records ∧
    (out.replies ≠ [] → replying)

/-- Nothing has been sent between the two states. -/
structure SameOutputs (s t : State) : Prop where
  bus : t.bus = s.bus
  latch : t.latch = s.latch
  strip : t.strip = s.strip
  reply : t.reply = s.reply
  status : t.status = s.status

/-! The frames on BUS. -/

theorem sentFrames_cons (p : Params) (latch : Nat) (bits : List Bool) (rest : List (List Bool)) :
    sentFrames p latch (bits :: rest) = ⟨latch, bits⟩ :: sentFrames p p.T_LATCH rest := rfl

theorem sentFrames_bits (p : Params) (latch : Nat) (frames : List (List Bool)) :
    (sentFrames p latch frames).map BusFrame.bits = frames := by
  induction frames generalizing latch with
  | nil => rfl
  | cons bits rest ih => rw [sentFrames_cons, List.map_cons, ih]

theorem sentFrames_length (p : Params) (latch : Nat) (frames : List (List Bool)) :
    (sentFrames p latch frames).length = frames.length := by
  rw [← List.length_map BusFrame.bits, sentFrames_bits]

theorem idleBefore_of_mem {p : Params} {latch : Nat} {frames : List (List Bool)} {frame : BusFrame}
    (h : frame ∈ sentFrames p latch frames) : frame.idleBefore = latch ∨ frame.idleBefore = p.T_LATCH := by
  induction frames generalizing latch with
  | nil => cases h
  | cons bits rest ih =>
    rw [sentFrames_cons, List.mem_cons] at h
    rcases h with rfl | hrest
    · exact .inl rfl
    · exact .inr (or_self_iff.mp (ih hrest))

theorem idleBefore_of_mem_tail {p : Params} {latch : Nat} {frames : List (List Bool)} {frame : BusFrame}
    (h : frame ∈ (sentFrames p latch frames).tail) : frame.idleBefore = p.T_LATCH := by
  cases frames with
  | nil => cases h
  | cons bits rest => exact or_self_iff.mp (idleBefore_of_mem h)

/-- Each frame but the first waits for T_LATCH (42_frame_renderer.md R144). -/
theorem sentFrames_idleBefore (p : Params) (latch : Nat) (frames : List (List Bool)) :
    (sentFrames p latch frames).map BusFrame.idleBefore =
      (latch :: List.replicate frames.length p.T_LATCH).take frames.length := by
  induction frames generalizing latch with
  | nil => rfl
  | cons bits rest ih => rw [sentFrames_cons, List.map_cons, ih]; rfl

/-! Sending, operation by operation. -/

theorem SameOutputs.sends_none {p : Params} {s t : State} (h : SameOutputs s t) (replying : Prop) :
    Sends p s t 0 0 replying := by
  refine ⟨⟨[], [], []⟩, ⟨?_, h.latch, h.strip, ?_, ?_⟩, ⟨nofun, nofun⟩, rfl, rfl, fun hne => absurd rfl hne⟩
  · rw [h.bus]; exact (List.append_nil _).symm
  · rw [h.reply, List.append_nil]
  · rw [h.status, List.append_nil]

theorem SameOutputs.sends {p : Params} {s u t : State} {frames records : Nat} {replying : Prop} (h : SameOutputs s u)
    (hs : Sends p u t frames records replying) : Sends p s t frames records replying := by
  obtain ⟨out, he, hout⟩ := hs
  refine ⟨out, ⟨?_, ?_, ?_, ?_, ?_⟩, hout⟩
  · rw [he.bus, h.bus, h.latch]
  · rw [he.latch, h.latch]
  · rw [he.strip, h.strip]
  · rw [he.reply, h.reply]
  · rw [he.status, h.status]

theorem sends_emitFrame {p : Params} {s : State} (hfb : Memory.wf p s.fb) (replying : Prop) :
    Sends p s (emitFrame p s) 1 0 replying := by
  refine ⟨⟨[frameBits p (s.fb.map fun px => scale px s.bright)], [], []⟩, ⟨rfl, rfl, rfl, ?_, ?_⟩, ⟨?_, nofun⟩, rfl, rfl,
    fun hne => absurd rfl hne⟩
  · exact (List.append_nil _).symm
  · exact (List.append_nil _).symm
  · intro bits hbits
    rw [List.mem_singleton.mp hbits, frameBits_length, List.length_map, hfb]

theorem sends_immediateRender (p : Params) (px : Pixel) (s : State) (replying : Prop) :
    Sends p s (immediateRender p px s) 1 0 replying :=
  SameOutputs.sends (u := s.fill p px) ⟨rfl, rfl, rfl, rfl, rfl⟩ (sends_emitFrame (fill_keeps_wf p px s) replying)

theorem Sends.imp {p : Params} {s t : State} {frames records : Nat} {replying replying' : Prop}
    (h : Sends p s t frames records replying) (himp : replying → replying') : Sends p s t frames records replying' := by
  obtain ⟨out, he, hshape, hframes, hrecords, hreply⟩ := h
  exact ⟨out, he, hshape, hframes, hrecords, fun hne => himp (hreply hne)⟩

theorem Sends.pushStatus {p : Params} {s t : State} {frames records : Nat} {replying : Prop}
    (h : Sends p s t frames records replying) (r : StatusRecord) :
    Sends p s (t.pushStatus r) frames (records + 1) replying := by
  obtain ⟨out, he, hshape, hframes, hrecords, hreply⟩ := h
  refine ⟨{ out with records := out.records ++ [r] }, { he with status := ?_ }, ⟨hshape.frames, hshape.replies⟩, hframes, ?_,
    hreply⟩
  · rw [State.pushStatus_status, he.status, List.append_assoc]
  · rw [List.length_append, hrecords]
    rfl

/-! Sending, event by event. -/

theorem sends_setColor (p : Params) (px : Pixel) (s : State) (replying : Prop) :
    Sends p s (setColor p px s) 1 0 replying :=
  SameOutputs.sends (u := (s.setBase px).setMode (modeWhenLit s.mode)) ⟨rfl, rfl, rfl, rfl, rfl⟩
    (sends_immediateRender p px _ replying)

theorem sameOutputs_setModeTo (p : Params) (m : Byte) (s : State) : SameOutputs s (setModeTo p m s) :=
  ⟨setModeTo_bus p m s, setModeTo_latch p m s, setModeTo_strip p m s, setModeTo_reply p m s, setModeTo_status p m s⟩

theorem sends_turnOff (p : Params) (s : State) (replying : Prop) : Sends p s (turnOff p s) 1 0 replying :=
  (sameOutputs_setModeTo p 0 s).sends (sends_immediateRender p .black _ replying)

theorem pingReply_length {p : Params} (hp : p.Valid) : (pingReply p).length = p.REPLY_LEN := by
  have := hp.REPLY_LEN_ge
  simp only [pingReply, List.length_append, Vector.length_toList, List.length_replicate]
  omega

theorem sends_ping {p : Params} (hp : p.Valid) (s : State) {replying : Prop} (hreply : replying) :
    Sends p s (ping p s) 0 0 replying := by
  refine ⟨⟨[], [pingReply p], []⟩, ⟨?_, rfl, rfl, rfl, ?_⟩, ⟨nofun, ?_⟩, rfl, rfl, fun _ => hreply⟩
  · exact (List.append_nil _).symm
  · exact (List.append_nil _).symm
  · intro msg hmsg
    rw [List.mem_singleton.mp hmsg, pingReply_length hp]

theorem sends_instrEffect (i : Instr) (s : State) :
    Sends Config.device s (instrEffect i s) (instrFrames i) 0 (i = .pingB ∨ i = .pingA) := by
  cases i with
  | setcolorB r g b | setcolorA r g b => exact sends_setColor _ _ s _
  | offB | offA => exact sends_turnOff _ s _
  | setmodeB m | setmodeA m => exact (sameOutputs_setModeTo Config.device m s).sends_none _
  | pingB | pingA => exact sends_ping Config.device_valid s (by simp)
  | setmusicB v | setmusicA v | setbrightB v | setbrightA v | unknownB op | unknownA op =>
    refine SameOutputs.sends_none ⟨?_, ?_, ?_, ?_, ?_⟩ _ <;> rfl

/-- A renderer sends nothing and leaves N pixels (41_effect_engine.md R121, R122). -/
theorem renderer_sameOutputs {p : Params} {m : BitVec 8} {render : State → State} (hr : renderer p m = some render)
    (s : State) : SameOutputs s (render s) ∧ Memory.wf p (render s).fb := by
  unfold renderer at hr
  split at hr
  case h_1 | h_2 | h_4 => cases hr; exact ⟨⟨rfl, rfl, rfl, rfl, rfl⟩, fill_keeps_wf p _ s⟩
  case h_3 | h_5 | h_6 => cases hr; exact ⟨⟨rfl, rfl, rfl, rfl, rfl⟩, paint_keeps_wf p _ s⟩
  case h_7 =>
    cases hr
    refine ⟨?_, fill_keeps_wf p _ (cycled p s)⟩
    unfold renderColorCycle cycled
    split <;> exact ⟨rfl, rfl, rfl, rfl, rfl⟩
  case h_8 => cases hr

theorem sends_tick {p : Params} {s t : State} (h : tick p s = .next t) (replying : Prop) : Sends p s t 1 0 replying := by
  obtain ⟨render, hr, rfl⟩ := tick_next_iff.mp h
  obtain ⟨hsame, hfb⟩ := renderer_sameOutputs hr s
  exact hsame.sends (sends_emitFrame hfb replying)

/-- The whole state after `Connect` (60_exceptions.md R180). -/
theorem connect_sentFrames_eq (p : Params) (s : State) :
    connect p s =
      { s with
        conn := true
        fb := (List.range p.N).map (p.freePixel s.draws)
        bus := s.bus ++ sentFrames p s.latch (p.CONNECT_FRAMES.map (frameBits p))
        latch := if p.CONNECT_FRAMES.map (frameBits p) = [] then s.latch else p.T_LATCH
        strip := (p.CONNECT_FRAMES.map (frameBits p)).getLast?.getD s.strip
        draws := s.draws + 1 } := by
  rw [connect_eq, sendFrames_eq]
  simp [sentFrames]

theorem sends_connect {p : Params} (hp : p.Valid) (s : State) (replying : Prop) :
    Sends p s (connect p s) p.CONNECT_FRAMES.length 0 replying := by
  rw [connect_sentFrames_eq]
  refine ⟨⟨p.CONNECT_FRAMES.map (frameBits p), [], []⟩, ⟨rfl, rfl, rfl, ?_, ?_⟩, ⟨?_, nofun⟩, List.length_map _, rfl,
    fun hne => absurd rfl hne⟩
  · exact (List.append_nil _).symm
  · exact (List.append_nil _).symm
  · intro bits hbits
    obtain ⟨frame, hframe, rfl⟩ := List.mem_map.mp hbits
    rw [frameBits_length, hp.connectFrames frame hframe]

theorem sends_disconnect (p : Params) (s : State) (replying : Prop) : Sends p s (disconnect p s) 1 0 replying :=
  SameOutputs.sends (u := clearConnected s) ⟨rfl, rfl, rfl, rfl, rfl⟩
    ((sameOutputs_setModeTo p 0 _).sends (sends_immediateRender p .black _ replying))

theorem sends_receiveMessage {bytes : List Byte} {s t : State} (h : receiveMessage bytes s = .next t) (now : Nat) :
    Sends Config.device s t (eventFrames Config.device (.msg bytes now)) 1
      (decode bytes = .ok .pingB ∨ decode bytes = .ok .pingA) := by
  rcases receiveMessage_effect h with ⟨i, r, hi, rfl⟩ | ⟨why, r, hwhy, rfl⟩
  · simp only [eventFrames, hi, Except.ok.injEq]
    exact (sends_instrEffect i s).pushStatus r
  · simp only [eventFrames, hwhy]
    exact (SameOutputs.sends_none ⟨rfl, rfl, rfl, rfl, rfl⟩ _).pushStatus r

/-- What a step sends that takes an event other than Reset (42_frame_renderer.md R146, 60_exceptions.md R173). -/
theorem sends_step {s t : State} {e : Event} {rest : List Event} (hin : s.inputs = e :: rest) (hne : e ≠ .reset)
    (hstep : step s = .next t) :
    Sends Config.device s t (eventFrames Config.device e) (eventRecords e)
      (∃ bytes now, e = .msg bytes now ∧ (decode bytes = .ok .pingB ∨ decode bytes = .ok .pingA)) := by
  rw [step_eq_takeEvent hin] at hstep
  have htaken (now : Nat) : SameOutputs s (s.takeInput rest now) := ⟨rfl, rfl, rfl, rfl, rfl⟩
  cases e with
  | reset => exact absurd rfl hne
  | msg bytes now =>
    obtain ⟨-, hmsg⟩ := afterReset_next hstep
    exact (htaken now).sends ((sends_receiveMessage hmsg now).imp fun hping => ⟨bytes, now, rfl, hping⟩)
  | tick now =>
    obtain ⟨-, htick⟩ := afterReset_next hstep
    exact (htaken now).sends (sends_tick htick _)
  | connect now =>
    obtain ⟨-, ht⟩ := afterReset_next hstep
    cases ht
    exact (htaken now).sends (sends_connect Config.device_valid _ _)
  | disconnect now =>
    obtain ⟨-, ht⟩ := afterReset_next hstep
    cases ht
    exact (htaken now).sends (sends_disconnect Config.device _ _)

/-- A step waits, applies a Reset, or sends well-shaped output. -/
theorem step_output_cases {s t : State} (hstep : step s = .next t) :
    t = s ∨ (t.bus = [] ∧ t.reply = [] ∧ t.strip = s.strip) ∨
      ∃ out : Output, Emits Config.device s t out ∧ out.Shaped Config.device := by
  rcases hin : s.inputs with _ | ⟨e, rest⟩
  · rw [step_of_no_input hin] at hstep
    exact .inl (Host.Outcome.next.inj hstep).symm
  · by_cases hne : e = .reset
    · subst hne
      rw [step_reset hin] at hstep
      cases hstep
      exact .inr (.inl ⟨rfl, rfl, rfl⟩)
    · obtain ⟨out, hemits, hshaped, -⟩ := sends_step hin hne hstep
      exact .inr (.inr ⟨out, hemits, hshaped⟩)

/-! The statements. -/

/-- Settles O40: what is appended is well-shaped. -/
theorem stepKeepsOutputShapes : Obligations.StepKeepsOutputShapes := by
  intro s t h hstep
  rcases step_output_cases hstep with rfl | ⟨hbus, hreply, -⟩ | ⟨out, hemits, hshaped⟩
  · exact h
  · refine ⟨?_, ?_⟩
    · rw [hbus]; exact nofun
    · rw [hreply]; exact nofun
  · refine ⟨fun frame hframe => ?_, fun msg hmsg => ?_⟩
    · rw [hemits.bus, List.mem_append] at hframe
      rcases hframe with hold | hnew
      · exact h.frames frame hold
      · refine hshaped.frames _ ?_
        rw [← sentFrames_bits Config.device s.latch out.frames]
        exact List.mem_map_of_mem hnew
    · rw [hemits.reply, List.mem_append] at hmsg
      exact hmsg.elim (h.replies msg) (hshaped.replies msg)

/-- Settles O41: the first of the new frames goes out after the idle time owed, which is T_LATCH once a frame has been sent. -/
theorem stepKeepsLatchGaps : Obligations.StepKeepsLatchGaps := by
  intro s t h hstep
  rcases step_output_cases hstep with rfl | ⟨hbus, -, -⟩ | ⟨out, hemits, -⟩
  · exact h
  · refine ⟨?_, fun hne => absurd hbus hne⟩
    rw [hbus]; exact nofun
  · refine ⟨?between, ?owed⟩
    case between =>
      rw [hemits.bus]
      by_cases hempty : s.bus = []
      · rw [hempty, List.nil_append]
        exact fun frame hframe => (idleBefore_of_mem_tail hframe).ge
      · rw [List.tail_append_of_ne_nil hempty]
        intro frame hframe
        rcases List.mem_append.mp hframe with hold | hnew
        · exact h.between frame hold
        · rcases idleBefore_of_mem hnew with hidle | hidle
          · exact (h.owed hempty).trans hidle.ge
          · exact hidle.ge
    case owed =>
      rw [hemits.bus, hemits.latch]
      split
      case isTrue hnone =>
        rw [hnone]
        exact fun hne => h.owed fun hempty => hne (by rw [hempty]; rfl)
      case isFalse => exact fun _ => le_refl _

/-- The strip shows the last frame on BUS, if there is one (10_state.md R40(b)). -/
def ShowsLast (s : State) : Prop := ∀ frame, s.bus.getLast? = some frame → s.strip = frame.bits

theorem showsLast_iff {s : State} : ShowsLast s ↔ s.strip = (s.bus.map BusFrame.bits).getLast?.getD s.strip := by
  unfold ShowsLast
  rw [List.getLast?_map]
  cases s.bus.getLast? <;> simp

theorem Emits.showsLast {p : Params} {s t : State} {out : Output} (he : Emits p s t out) (h : ShowsLast s) : ShowsLast t := by
  rw [showsLast_iff] at h ⊢
  rw [he.bus, he.strip, List.map_append, sentFrames_bits, List.getLast?_append]
  cases out.frames.getLast? with
  | none => exact h
  | some bits => rfl

/-- The image stays where BUS does (10_state.md R40(b)). -/
theorem Emits.strip_eq {p : Params} {s t : State} {out : Output} (he : Emits p s t out)
    (hbus : t.bus = s.bus ∨ t.bus = []) : t.strip = s.strip := by
  have hnone : sentFrames p s.latch out.frames = [] := by
    rw [he.bus] at hbus
    rcases hbus with hkept | hempty
    · exact List.append_right_eq_self.mp hkept
    · exact (List.append_eq_nil_iff.mp hempty).2
  have hframes : out.frames = [] := by rw [← sentFrames_bits p s.latch out.frames, hnone]; rfl
  rw [he.strip, hframes]
  rfl

/-- Settles O43: the strip follows the frames appended, and a Reset empties BUS and keeps the image. -/
theorem stripShowsLastFrame : Obligations.StripShowsLastFrame := by
  refine ⟨fun s t h hstep => ?shows, fun s t hstep hbus => ?keeps⟩
  case shows =>
    rcases step_output_cases hstep with rfl | ⟨hbus, -, -⟩ | ⟨out, hemits, -⟩
    · exact h
    · rw [hbus]; exact nofun
    · exact hemits.showsLast h
  case keeps =>
    rcases step_output_cases hstep with rfl | ⟨-, -, hstrip⟩ | ⟨out, hemits, -⟩
    · rfl
    · exact hstrip
    · exact hemits.strip_eq hbus

/-- Settles O50: as many frames and records are appended as the output of the step holds. -/
theorem framesAndRecordsPerEvent : Obligations.FramesAndRecordsPerEvent := by
  intro s t e rest hin hne hstep
  obtain ⟨out, hemits, -, hframes, hrecords, -⟩ := sends_step hin hne hstep
  rw [hemits.bus, hemits.status, List.length_append, List.length_append, sentFrames_length, hframes, hrecords]
  exact ⟨rfl, rfl⟩

/-- Settles O51: outputs are appended, and a reply that is not empty is a PING's. -/
theorem historiesOnlyGrow : Obligations.HistoriesOnlyGrow := by
  intro s t e rest hin hne hstep
  obtain ⟨out, hemits, -, -, -, hreply⟩ := sends_step hin hne hstep
  refine ⟨⟨_, hemits.bus.symm⟩, ⟨_, hemits.reply.symm⟩, ⟨_, hemits.status.symm⟩,
    fun hchanged => hreply fun hnone => hchanged ?_⟩
  rw [hemits.reply, hnone, List.append_nil]

end Sys2Proof.Machine

/-! ## Proofs: bits of a frame

A frame is a concatenation of blocks of one length: pixels of 24 bits, each three channels of 8 (42_frame_renderer.md R142). The
place of a bit and the injectivity of R143 follow from that. -/
namespace Sys2Proof.Machine

/-! Concatenated blocks of equal length. -/

section
variable {α β : Type} {f : α → List β} {n : Nat} (hf : ∀ a, (f a).length = n)
include hf

theorem getElem?_flatMap_block {l : List α} {i j : Nat} {a : α} (ha : l[i]? = some a) (hj : j < n) :
    (l.flatMap f)[n * i + j]? = (f a)[j]? := by
  induction l generalizing i with
  | nil => cases ha
  | cons b rest ih =>
    rw [List.flatMap_cons]
    cases i with
    | zero =>
      obtain rfl : b = a := by simpa using ha
      rw [Nat.mul_zero, Nat.zero_add, List.getElem?_append_left (by rw [hf]; exact hj)]
    | succ i =>
      have hplace : n * (i + 1) + j = n + (n * i + j) := by ring
      rw [hplace, List.getElem?_append_right (by rw [hf]; omega), hf, Nat.add_sub_cancel_left]
      exact ih ha

theorem flatMap_block_injective (hn : 0 < n) (hinj : Function.Injective f) :
    Function.Injective fun l : List α => l.flatMap f := by
  have hne (a : α) : f a ≠ [] := List.ne_nil_of_length_pos (by rw [hf]; exact hn)
  intro as
  induction as with
  | nil =>
    intro bs h
    cases bs with
    | nil => rfl
    | cons b bs => exact absurd (List.append_eq_nil_iff.mp h.symm).1 (hne b)
  | cons a as ih =>
    intro bs h
    cases bs with
    | nil => exact absurd (List.append_eq_nil_iff.mp h).1 (hne a)
    | cons b bs =>
      obtain ⟨hhead, htail⟩ := List.append_inj h (by rw [hf, hf])
      rw [hinj hhead, ih htail]

end

/-! The bit of a channel, of a pixel, of a frame. -/

/-- The place of the `j`-th bit sent within its channel (20_memory.md R55). -/
def bitPlace (order : BitOrder) (j : Nat) : Nat :=
  match order with
  | .msbFirst => 7 - j
  | .lsbFirst => j

theorem channelBits_getElem? (order : BitOrder) (v : Byte) {j : Nat} (hj : j < 8) :
    (channelBits order v)[j]? = some (v.getLsbD (bitPlace order j)) := by
  cases order <;> (interval_cases j <;> rfl)

theorem serialize_getElem? {p : Params} {k j : Nat} {c : Channel} (q : Pixel) (hc : p.CHANNEL_ORDER.channels[k]? = some c)
    (hj : j < 8) : (serialize p q)[8 * k + j]? = some ((q.channel c).getLsbD (bitPlace p.BIT_ORDER j)) := by
  unfold serialize
  rw [getElem?_flatMap_block (fun c => channelBits_length p.BIT_ORDER (q.channel c)) hc hj, channelBits_getElem? _ _ hj]

theorem channels_length (order : ChannelOrder) : order.channels.length = 3 := by
  cases order <;> rfl

theorem frameBits_getElem? {p : Params} {scaled : List Pixel} {i k j : Nat} {px : Pixel} {c : Channel}
    (hpx : scaled[i]? = some px) (hc : p.CHANNEL_ORDER.channels[k]? = some c) (hj : j < 8) :
    (frameBits p scaled)[24 * i + 8 * k + j]? = some ((px.channel c).getLsbD (bitPlace p.BIT_ORDER j)) := by
  have hk : k < 3 := by
    rw [← channels_length p.CHANNEL_ORDER]
    exact (List.getElem?_eq_some_iff.mp hc).1
  unfold frameBits
  rw [Nat.add_assoc, getElem?_flatMap_block (serialize_length p) hpx (by omega), serialize_getElem? px hc hj]

/-- Settles O23: the block of the pixel, the block of the channel, the bit in it. -/
theorem frameBitsInOrder : Obligations.FrameBitsInOrder := by
  intro p scaled i k j px c hpx hc hj
  rw [frameBits_getElem? hpx hc hj]
  rfl

/-! A pixel is determined by its bits: each channel is sent, and each bit of a channel. -/

theorem exists_channel_place (order : ChannelOrder) (c : Channel) : ∃ k : Nat, order.channels[k]? = some c := by
  have hmem : c ∈ order.channels := by cases order <;> cases c <;> decide
  exact List.mem_iff_getElem?.mp hmem

theorem exists_bitPlace (order : BitOrder) {n : Nat} (hn : n < 8) : ∃ j, j < 8 ∧ bitPlace order j = n := by
  cases order
  · exact ⟨7 - n, by omega, show 7 - (7 - n) = n by omega⟩
  · exact ⟨n, hn, rfl⟩

theorem pixel_ext {q q' : Pixel} (h : ∀ c, q.channel c = q'.channel c) : q = q' := by
  obtain ⟨r, g, b⟩ := q
  obtain ⟨r', g', b'⟩ := q'
  have hr : r = r' := h .r
  have hg : g = g' := h .g
  have hb : b = b' := h .b
  rw [hr, hg, hb]

theorem serialize_injective (p : Params) : Function.Injective (serialize p) := by
  refine fun q q' h => pixel_ext fun c => BitVec.eq_of_getLsbD_eq fun n hn => ?_
  obtain ⟨k, hk⟩ := exists_channel_place p.CHANNEL_ORDER c
  obtain ⟨j, hj, rfl⟩ := exists_bitPlace p.BIT_ORDER hn
  rw [← Option.some.injEq, ← serialize_getElem? q hk hj, h, serialize_getElem? q' hk hj]

/-- Settles O24: blocks of 24 bits, each determining its pixel. -/
theorem frameBitsDeterminePixels : Obligations.FrameBitsDeterminePixels := fun p _ _ =>
  (flatMap_block_injective (serialize_length p) (by decide) (serialize_injective p)).eq_iff

/-- Settles O25: the bits are a function of FB and BRIGHT, and a step without an event answers the same state. -/
theorem emitFrameIsProjection : Obligations.EmitFrameIsProjection := by
  refine ⟨fun p s => ⟨_, emitFrame_eq p s, fun s' hfb hbright => ?bits⟩, fun s t hin hstep => ?waiting⟩
  case bits => rw [emitFrame_eq, hfb, hbright]
  case waiting =>
    rw [step_of_no_input hin] at hstep
    rw [← Host.Outcome.next.inj hstep]

end Sys2Proof.Machine

/-! ## Proofs: colour conversion

The sector table of `HueToRgb` (43_color_conversion.md R155, R156): a hue lies in one of six sectors, and both floors of a sector
are channel values. -/
namespace Sys2Proof.Machine

/-- The two moving channels of a sector before they become channel values. -/
theorem sector_floors {sector r : Nat} (hr : r < sector) : 255 * r / sector ≤ 254 ∧ 255 * (sector - r) / sector ≤ 255 := by
  have hup : 255 * r / sector < 255 := Nat.div_lt_of_lt_mul (by omega)
  have hdown : 255 * (sector - r) / sector ≤ 255 := Nat.div_le_of_le_mul (by omega)
  omega

theorem hueToRgb_add_turn (p : Params) (h : Nat) : hueToRgb p (h + p.TURN) = hueToRgb p h := by
  unfold hueToRgb
  rw [Nat.add_mod_right]

/-- The colours of the six sectors. -/
def sectorColour (up down : Byte) : Nat → Pixel
  | 0 => ⟨255, up, 0⟩
  | 1 => ⟨down, 255, 0⟩
  | 2 => ⟨0, 255, up⟩
  | 3 => ⟨0, down, 255⟩
  | 4 => ⟨up, 0, 255⟩
  | _ => ⟨255, 0, down⟩

theorem hueToRgb_eq_sectorColour (p : Params) (h : Nat) :
    hueToRgb p h = sectorColour (channelOfNat (255 * (h % p.TURN % p.SECTOR) / p.SECTOR))
      (channelOfNat (255 * (p.SECTOR - h % p.TURN % p.SECTOR) / p.SECTOR)) (h % p.TURN / p.SECTOR) := rfl

/-- Every colour of the table has a full and a dark channel. -/
theorem sectorColour_full_dark (up down : Byte) (sec : Nat) :
    (∃ c, (sectorColour up down sec).channel c = 255) ∧ ∃ c, (sectorColour up down sec).channel c = 0 := by
  unfold sectorColour
  split
  · exact ⟨⟨.r, rfl⟩, .b, rfl⟩
  · exact ⟨⟨.g, rfl⟩, .b, rfl⟩
  · exact ⟨⟨.g, rfl⟩, .r, rfl⟩
  · exact ⟨⟨.b, rfl⟩, .r, rfl⟩
  · exact ⟨⟨.b, rfl⟩, .g, rfl⟩
  · exact ⟨⟨.r, rfl⟩, .g, rfl⟩

/-- Settles O26: the sector picks the colour, and neither floor exceeds a channel. -/
theorem hueToRgbBySector : Obligations.HueToRgbBySector := by
  intro p h hp hw sec up down rgb
  have hsec : sec < 6 := Nat.div_lt_of_lt_mul (by
    rw [Nat.mul_comm, ← p.TURN_eq_sectors]
    exact Nat.mod_lt _ (Params.TURN_pos hp))
  obtain ⟨hup, hdown⟩ : up ≤ 254 ∧ down ≤ 255 := sector_floors (Nat.mod_lt _ (Params.SECTOR_pos hp))
  have hrgb : hueToRgb p h = sectorColour (channelOfNat up) (channelOfNat down) sec := hueToRgb_eq_sectorColour p h
  have hupByte : (channelOfNat up).toNat = up := channelOfNat_toNat (by omega)
  have hdownByte : (channelOfNat down).toNat = down := channelOfNat_toNat hdown
  have hcolour (n : Nat) (hn : sec = n) : rgb = ((sectorColour (channelOfNat up) (channelOfNat down) n).r.toNat,
      (sectorColour (channelOfNat up) (channelOfNat down) n).g.toNat,
      (sectorColour (channelOfNat up) (channelOfNat down) n).b.toNat) := by
    rw [← hn, ← hrgb]
  refine ⟨by omega, hup, hdown, ?sec0, ?sec1, ?sec2, ?sec3, ?sec4, ?sec5, hueToRgb_add_turn p h, ?channels⟩
  case channels =>
    rw [hrgb]
    exact sectorColour_full_dark _ _ _
  all_goals
    intro hn
    simp [hcolour _ hn, sectorColour, hupByte, hdownByte]

end Sys2Proof.Machine

/-! ## Proofs: what is not read

Noninterference of the registers that a mode does not use (41_effect_engine.md R123) and of the connection flag (10_state.md R25):
what does not read a register commutes with a write of it. -/
namespace Sys2Proof.Machine

/-! Writes of MUSIC, CONN and BRIGHT: no renderer writes them, and only Music's reads one. -/

/-- A write of a register outside BASE, MODE and phase state. -/
inductive SideWrite where
  | music (v : Byte)
  | conn (c : Bool)
  | bright (b : BitVec 7)

/-- The state after the write. -/
def SideWrite.apply (s : State) : SideWrite → State
  | music v => s.setMusic v
  | conn c => s.setConn c
  | bright b => s.setBright b

theorem cycled_sideWrite (p : Params) (w : SideWrite) (s : State) : cycled p (w.apply s) = w.apply (cycled p s) := by
  have hdue : cycleDue p (w.apply s) = cycleDue p s := by cases w <;> rfl
  unfold cycled
  rw [hdue]
  split
  · cases w <;> rfl
  · rfl

theorem renderer_sideWrite {p : Params} {m : BitVec 8} {render : State → State} (hr : renderer p m = some render)
    {w : SideWrite} (hw : ∀ v, w = .music v → m ≠ 5) (s : State) : render (w.apply s) = w.apply (render s) := by
  unfold renderer at hr
  split at hr
  case h_1 | h_2 | h_3 | h_4 | h_5 => cases hr; cases w <;> rfl
  case h_6 hmode =>
    cases hr; cases w
    case music v => exact absurd (BitVec.eq_of_toNat_eq hmode) (hw v rfl)
    all_goals rfl
  case h_7 =>
    cases hr
    rw [renderColorCycle, cycled_sideWrite]
    cases w <;> rfl
  case h_8 => cases hr

/-- A tick commutes with a write that its renderer and the frame emission commute with. -/
theorem tick_commutes {p : Params} {s t : State} {write : State → State} (h : tick p s = .next t)
    (hmode : (write s).mode = s.mode)
    (hwrite : ∀ render, renderer p s.mode = some render → emitFrame p (render (write s)) = write (emitFrame p (render s))) :
    tick p (write s) = .next (write t) := by
  obtain ⟨render, hr, rfl⟩ := tick_next_iff.mp h
  exact tick_next_iff.mpr ⟨render, by rwa [hmode], hwrite render hr⟩

theorem tick_setMusic {p : Params} {s t : State} (h : tick p s = .next t) (hm : s.mode ≠ 5) (v : Byte) :
    tick p (s.setMusic v) = .next (t.setMusic v) :=
  tick_commutes (write := fun s => s.setMusic v) h rfl fun _ hr =>
    congrArg (emitFrame p) (renderer_sideWrite hr (w := .music v) (fun _ _ => hm) s)

theorem tick_setConn {p : Params} {s t : State} (h : tick p s = .next t) (c : Bool) :
    tick p (s.setConn c) = .next (t.setConn c) :=
  tick_commutes (write := fun s => s.setConn c) h rfl fun _ hr =>
    congrArg (emitFrame p) (renderer_sideWrite hr (w := .conn c) nofun s)

/-- Off and Rainbow paint without BASE (41_effect_engine.md R112, R114). -/
theorem tick_setBase {p : Params} {s t : State} (h : tick p s = .next t) (hm : s.mode = 0 ∨ s.mode = 2) (px : Pixel) :
    tick p (s.setBase px) = .next (t.setBase px) := by
  refine tick_commutes (write := fun s => s.setBase px) h rfl fun render hr => ?_
  rcases hm with hm | hm <;> rw [hm] at hr <;> cases hr <;> rfl

theorem emitFrame_renderOff_bus (p : Params) (s : State) :
    (emitFrame p (renderOff p s)).bus = s.bus ++ [⟨s.latch, List.replicate (p.N * 24) false⟩] := by
  rw [emitFrame_eq]
  simp [renderOff, frameBits_black]

/-- BRIGHT changes no pixel, and in Off no bit of the frame (41_effect_engine.md R112, R123). -/
theorem tick_setBright {p : Params} {s t : State} (h : tick p s = .next t) (b : BitVec 7) :
    ∃ t', tick p (s.setBright b) = .next t' ∧ t'.fb = t.fb ∧ (s.mode = 0 → t'.bus = t.bus) := by
  obtain ⟨render, hr, rfl⟩ := tick_next_iff.mp h
  refine ⟨_, tick_next_iff.mpr ⟨render, hr, rfl⟩, ?fb, fun hm => ?bus⟩
  case fb =>
    show (render ((SideWrite.bright b).apply s)).fb = (render s).fb
    rw [renderer_sideWrite hr (w := .bright b) nofun]
    rfl
  case bus =>
    rw [hm] at hr
    obtain rfl : renderOff p = render := Option.some.inj hr
    rw [emitFrame_renderOff_bus, emitFrame_renderOff_bus]
    rfl

/-- Settles O47: a write of each register commutes with the tick, or with the part of it that is named. -/
theorem modesIgnoreUnusedRegisters : Obligations.ModesIgnoreUnusedRegisters := fun _ _ h =>
  ⟨fun px hm => tick_setBase h hm px, fun v hm => tick_setMusic h hm v, fun c => tick_setConn h c,
    fun b => tick_setBright h b⟩

/-! The connection flag (10_state.md R25, D23): it is overwritten by an event, or carried along. -/

/-- An outcome with its next state changed. -/
def mapNext (f : State → State) : Host.Outcome State Fault Refusal → Host.Outcome State Fault Refusal
  | .next t => .next (f t)
  | .fault r => .fault r
  | .refused r => .refused r

theorem setModeTo_setConn (p : Params) (m : Byte) (s : State) (c : Bool) :
    setModeTo p m (s.setConn c) = (setModeTo p m s).setConn c := by
  unfold setModeTo
  split
  · rw [if_pos ‹_›]
  · rw [if_neg ‹_›]
    unfold resetPhase
    split <;> rfl

theorem instrEffect_setConn (i : Instr) (s : State) (c : Bool) :
    instrEffect i (s.setConn c) = (instrEffect i s).setConn c := by
  cases i with
  | setmodeB m | setmodeA m => exact setModeTo_setConn _ m s c
  | offB | offA => exact congrArg (immediateRender _ _) (setModeTo_setConn _ 0 s c)
  | _ => rfl

theorem receiveMessage_setConn (bytes : List Byte) (s : State) (c : Bool) :
    receiveMessage bytes (s.setConn c) = mapNext (fun t => t.setConn c) (receiveMessage bytes s) := by
  unfold receiveMessage
  split
  · split
    case h_1 i _ => rw [exec_eq, exec_eq, instrEffect_setConn]; rfl
    case h_2 why _ => cases why <;> rfl
  · rfl

theorem tick_of_no_renderer {p : Params} {s : State} (hr : renderer p s.mode = none) :
    tick p s = .refused (.tickInReservedMode s.mode) := by
  unfold tick
  split
  case h_8 => rfl
  case h_1 hm | h_2 hm | h_3 hm | h_4 hm | h_5 hm | h_6 hm | h_7 hm => simp [renderer, hm] at hr

theorem tick_setConn_eq (p : Params) (s : State) (c : Bool) :
    tick p (s.setConn c) = mapNext (fun t => t.setConn c) (tick p s) := by
  cases hr : renderer p s.mode with
  | none => rw [tick_of_no_renderer hr, tick_of_no_renderer (s := s.setConn c) hr]; rfl
  | some render =>
    have htick : tick p s = .next (emitFrame p (render s)) := tick_next_iff.mpr ⟨render, hr, rfl⟩
    rw [tick_setConn htick, htick]
    rfl

theorem afterReset_setConn (s : State) (c : Bool) (f : State → State) (o : Host.Outcome State Fault Refusal) :
    afterReset (s.setConn c) (mapNext f o) = mapNext f (afterReset s o) := by
  unfold afterReset
  rw [State.setConn_wasReset]
  split <;> rfl

/-- The step of a state with another connection flag. -/
theorem step_setConn (s : State) (c : Bool) :
    step (s.setConn c) = step s ∨ step (s.setConn c) = mapNext (fun t => t.setConn c) (step s) := by
  rcases hin : s.inputs with _ | ⟨e, rest⟩
  · rw [step_of_no_input hin, step_of_no_input (s := s.setConn c) hin]
    exact .inr rfl
  · rw [step_eq_takeEvent hin, step_eq_takeEvent (s := s.setConn c) hin]
    cases e with
    | reset => exact .inl rfl
    | connect now => exact .inl rfl
    | disconnect now => exact .inl rfl
    | msg bytes now =>
      right
      unfold takeEvent
      rw [← afterReset_setConn, ← receiveMessage_setConn]
      rfl
    | tick now =>
      right
      unfold takeEvent
      rw [← afterReset_setConn, ← tick_setConn_eq]
      rfl

/-- Settles O48: the step overwrites the flag or carries it along, whatever the outcome. -/
theorem nothingReadsConn : Obligations.NothingReadsConn := by
  intro s c
  refine ⟨fun t h => ?next, fun f h => ?fault, fun r h => ?refused⟩
  case next =>
    rcases step_setConn s c with hsame | hcarried
    · exact ⟨t, hsame.trans h, rfl⟩
    · exact ⟨t.setConn c, by rw [hcarried, h]; rfl, rfl⟩
  case fault | refused =>
    rcases step_setConn s c with hsame | hcarried
    · exact hsame.trans h
    · rw [hcarried, h]; rfl

end Sys2Proof.Machine

/-! ## Proofs: commands

What each command leaves (40_command_decoder.md R91 to R96, R98): the whole next state of its effect, then the two formats of it. -/
namespace Sys2Proof.Machine

/-! The whole states of the effects that are more than one write. -/

theorem setColor_eq (p : Params) (px : Pixel) (s : State) :
    setColor p px s =
      { s with
        base := px
        mode := if s.mode = 0 then 1 else s.mode
        fb := List.replicate p.N px
        bus := s.bus ++ [⟨s.latch, frameBits p (List.replicate p.N (scale px s.bright))⟩]
        latch := p.T_LATCH
        strip := frameBits p (List.replicate p.N (scale px s.bright)) } :=
  immediateRender_eq p px ((s.setBase px).setMode (modeWhenLit s.mode))

/-- A black frame is all zero bits for every BRIGHT (40_command_decoder.md R92(b)). -/
theorem immediateRender_black (p : Params) (s : State) :
    immediateRender p .black s =
      { s with
        fb := List.replicate p.N ⟨0, 0, 0⟩
        bus := s.bus ++ [⟨s.latch, List.replicate (p.N * 24) false⟩]
        latch := p.T_LATCH
        strip := List.replicate (p.N * 24) false } := by
  rw [immediateRender_eq, scale_black, frameBits_black]
  rfl

theorem turnOff_eq (p : Params) (s : State) :
    turnOff p s =
      { s with
        mode := 0
        fb := List.replicate p.N ⟨0, 0, 0⟩
        bus := s.bus ++ [⟨s.latch, List.replicate (p.N * 24) false⟩]
        latch := p.T_LATCH
        strip := List.replicate (p.N * 24) false } := by
  unfold turnOff
  rw [show setModeTo p 0 s = s.setMode 0 from setModeTo_zero p s, immediateRender_black]
  rfl

/-- `SetModeTo`, register by register (10_state.md R34). -/
theorem setModeTo_eq (p : Params) (m : Byte) (s : State) :
    setModeTo p m s =
      if m = s.mode then s
      else
        { s with
          mode := m
          hue := if m = 2 then p.HUE_INIT else s.hue
          breath := if m = 3 then p.BREATH_INIT else s.breath
          chasePos := if m = 4 then p.CHASE_POS_INIT else s.chasePos
          pulse := if m = 4 then p.PULSE_INIT else s.pulse
          cycLast := if m = 6 then s.now % 2 ^ p.TIME_BITS else s.cycLast
          cycHue := if m = 6 then p.CYC_HUE_INIT else s.cycHue } := by
  unfold setModeTo
  refine if_congr Iff.rfl rfl ?_
  rcases resetPhase_cases p m (s.setMode m) with ⟨rfl, heq⟩ | ⟨rfl, heq⟩ | ⟨rfl, heq⟩ | ⟨rfl, heq⟩ | ⟨h2, h3, h4, h6, heq⟩ <;>
    rw [heq]
  case inr.inr.inr.inr =>
    rw [if_neg h2, if_neg h3, if_neg h4, if_neg h4, if_neg h6, if_neg h6]
    rfl
  all_goals rfl

/-! The statements of single commands. -/

/-- Settles O15: both formats have the effect of `setColor_eq`. -/
theorem setColorShowsAtOnce : Obligations.SetColorShowsAtOnce := by
  intro r g b s
  simp only [exec_eq, instrEffect, setColor_eq]
  exact ⟨rfl, rfl⟩

/-- Settles O17: the mode write register by register, which leaves STATUS to the record. -/
theorem setModeRestartsPhase : Obligations.SetModeRestartsPhase := by
  intro m s t
  have heffect : setModeTo Config.device m s = t := setModeTo_eq Config.device m s
  have hstatus : t.status = s.status := heffect ▸ setModeTo_status Config.device m s
  rw [← hstatus, ← heffect]
  exact ⟨rfl, rfl⟩

theorem exec_off {s t : State} (h : exec .offB s = .next t ∨ exec .offA s = .next t) :
    ∃ r, t = (turnOff Config.device s).pushStatus r := by
  rcases h with h | h <;> exact ⟨_, (Host.Outcome.next.inj h).symm⟩

theorem exec_setmode {m : Byte} {s t : State} (h : exec (.setmodeB m) s = .next t ∨ exec (.setmodeA m) s = .next t) :
    ∃ r, t = (setModeTo Config.device m s).pushStatus r := by
  rcases h with h | h <;> exact ⟨_, (Host.Outcome.next.inj h).symm⟩

/-- Settles O16: OFF leaves Off and the base colour, from where a SETMODE to any other mode is a change. -/
theorem offBlacksTheStrip : Obligations.OffBlacksTheStrip := by
  refine ⟨fun s => ?state, fun payload => ⟨decode_formatB (by decide) payload, rfl⟩,
    fun s t u hoff hset => ?colour, fun s t u m hoff hset => ?phase⟩
  case state =>
    simp only [exec_eq, instrEffect, turnOff_eq]
    exact ⟨rfl, rfl⟩
  all_goals
    obtain ⟨r, rfl⟩ := exec_off hoff
    obtain ⟨r', rfl⟩ := exec_setmode hset
  case colour =>
    refine ⟨_, tick_next_iff.mpr ⟨renderStatic Config.device, ?_, rfl⟩, ?_⟩
    · rw [State.pushStatus_mode, setModeTo_mode]; rfl
    · simp [emitFrame_eq, renderStatic, turnOff_eq]
  case phase =>
    rw [setModeTo_eq, turnOff_eq]
    refine ⟨?_, ?_, ?_, ?_⟩ <;> (rintro rfl; simp)

/-- Settles O18: one write and one record; outside Music a tick commutes with the write. -/
theorem setMusicStoresLevel : Obligations.SetMusicStoresLevel :=
  ⟨fun _ _ => ⟨rfl, rfl⟩, fun _ _ => ⟨rfl, rfl⟩, ⟨rfl, rfl⟩, fun v _ _ hm h => tick_setMusic h hm v⟩

/-- Settles O19: the level is the clamped byte; brightness 0 makes every pixel black, 100 keeps it. -/
theorem setBrightClampsBrightness : Obligations.SetBrightClampsBrightness := by
  refine ⟨fun v s => ⟨clampBrightness v, clampBrightness_toNat v, rfl, rfl⟩, fun _ _ => ⟨rfl, rfl⟩, ⟨rfl, rfl⟩,
    fun s hb => ?dark, fun s hb => ?full⟩
  case dark =>
    have hblack : s.fb.map (fun px => scale px s.bright) = List.replicate s.fb.length .black := by simp [hb]
    rw [emitFrame_eq, hblack, frameBits_black]
  case full =>
    have hsame : s.fb.map (fun px => scale px s.bright) = s.fb := by simp [hb]
    rw [emitFrame_eq, hsame]

/-- Settles O20: the reply is the four bytes of the tag and zeros up to REPLY_LEN. -/
theorem pingRepliesWithTag : Obligations.PingRepliesWithTag := by
  refine ⟨fun s => ⟨pingReply Config.device, pingReply_length Config.device_valid, ?tag, ?zeros, rfl, rfl⟩,
    fun trailing => ⟨decode_formatB (by decide) trailing, rfl⟩⟩
  case tag => exact List.take_left' Vector.length_toList
  case zeros =>
    intro byte hbyte
    rw [show (pingReply Config.device).drop 4 = List.replicate _ 0 from List.drop_left' Vector.length_toList] at hbyte
    exact List.eq_of_mem_replicate hbyte

/-! The two formats (20_memory.md R57). -/

/-- The same command in Format A. -/
def inFormatA : Instr → Instr
  | .setcolorB r g b => .setcolorA r g b
  | .offB => .offA
  | .setmodeB m => .setmodeA m
  | .setmusicB v => .setmusicA v
  | .setbrightB v => .setbrightA v
  | .pingB => .pingA
  | .unknownB op => .unknownA op
  | i => i

theorem inFormatA_format (i : Instr) : (inFormatA i).format = .A := by cases i <;> rfl
theorem inFormatA_opcode (i : Instr) : (inFormatA i).opcode = i.opcode := by cases i <;> rfl
theorem inFormatA_operands (i : Instr) : (inFormatA i).operands = i.operands := by cases i <;> rfl
theorem inFormatA_wf (i : Instr) : (inFormatA i).wf = i.wf := by cases i <;> rfl
theorem inFormatA_effect (i : Instr) : instrEffect (inFormatA i) = instrEffect i := by cases i <;> rfl
theorem inFormatA_outcome (i : Instr) : instrOutcome (inFormatA i) = instrOutcome i := by cases i <;> rfl

theorem decodeBody_inFormatA {f : Format} {op : Byte} {payload : List Byte} {i : Instr} (h : decodeBody f op payload = .ok i) :
    decodeBody .A op payload = .ok (inFormatA i) := by
  obtain ⟨hwf, -, rfl, trailing, rfl⟩ := decodeBody_ok h
  have hA := decodeBody_of_wf ((inFormatA_wf i).trans hwf) trailing
  rwa [inFormatA_format, inFormatA_opcode, inFormatA_operands] at hA

theorem decodeBody_error_inFormatA {f : Format} {op : Byte} {payload : List Byte} {why : Malformed}
    (h : decodeBody f op payload = .error why) : decodeBody .A op payload = .error (.short .A op) := by
  obtain ⟨-, -, ⟨rfl, hshort⟩ | ⟨hop, rfl⟩⟩ := decodeBody_error h
  · exact decodeBody_setcolor_short hshort .A
  · exact decodeBody_operand_missing hop .A

theorem instrEffect_status (i : Instr) (s : State) : (instrEffect i s).status = s.status := by
  obtain ⟨out, hemits, -, -, hrecords, -⟩ := sends_instrEffect i s
  rw [hemits.status, List.length_eq_zero_iff.mp hrecords, List.append_nil]

/-- Settles O49: both bodies are read alike, and an instruction or a rejection differs from its twin in the record's format. -/
theorem formatsLeaveSameState : Obligations.FormatsLeaveSameState := by
  intro s op payload hop hlen
  have hlenB : (op :: payload).length ≤ Config.device.MSG_MAX := by simp only [List.length_cons]; omega
  have hlenA : (0x00 :: op :: payload).length ≤ Config.device.MSG_MAX := by simpa only [List.length_cons] using hlen
  have hdecB := decode_formatB hop payload
  have hdecA := decode_formatA op payload
  cases hbody : decodeBody .B op payload with
  | ok i =>
    obtain ⟨-, hformat, hopcode, -⟩ := decodeBody_ok hbody
    rw [receiveMessage_ok hlenB (hdecB.trans hbody), receiveMessage_ok hlenA (hdecA.trans (decodeBody_inFormatA hbody)),
      exec_eq, exec_eq, inFormatA_effect, inFormatA_outcome, inFormatA_opcode, inFormatA_format, hformat, hopcode]
    refine ⟨_, _, rfl, rfl, rfl, instrOutcome i, ?_, ?_⟩ <;> rw [State.pushStatus_status, instrEffect_status]
  | error why =>
    obtain ⟨rfl, -⟩ := decodeBody_error hbody
    rw [receiveMessage_error hlenB (hdecB.trans hbody),
      receiveMessage_error hlenA (hdecA.trans (decodeBody_error_inFormatA hbody))]
    exact ⟨_, _, rfl, rfl, rfl, .malformedMessage, rfl, rfl⟩

end Sys2Proof.Machine

/-! ## Proofs: the tick, mode by mode

The next state of a tick in each named mode (41_effect_engine.md R112 to R118): a renderer paints the frame buffer and advances its
phase, then the frame goes out. -/
namespace Sys2Proof.Machine

/-! The plain modes. -/

/-- Settles O27: Off is an immediate render of black. -/
theorem tickOffIsBlack : Obligations.TickOffIsBlack := by
  intro s now rest hw hin hm
  have hr : renderer Config.device s.mode = some (renderOff Config.device) := by rw [hm]; rfl
  rw [step_tick_of_renderer hw hin hr]
  exact congrArg Host.Outcome.next (immediateRender_black _ _)

/-- Settles O28: Static is an immediate render of BASE. -/
theorem tickStaticShowsBase : Obligations.TickStaticShowsBase := by
  intro s now rest hw hin hm
  have hr : renderer Config.device s.mode = some (renderStatic Config.device) := by rw [hm]; rfl
  rw [step_tick_of_renderer hw hin hr]
  exact congrArg Host.Outcome.next (immediateRender_eq _ s.base _)

/-- Settles O29: the frame is the painted buffer scaled, whatever the advance of HUE. -/
theorem tickRainbowTurns : Obligations.TickRainbowTurns := by
  intro s now rest hw hin hm
  have hr : renderer Config.device s.mode = some (renderRainbow Config.device) := by rw [hm]; rfl
  rw [step_tick_of_renderer hw hin hr]
  exact congrArg Host.Outcome.next (emitFrame_eq _ _)

/-! Breathing (41_effect_engine.md R115). -/

theorem emitFrame_renderBreathing (p : Params) (s : State) :
    emitFrame p (renderBreathing p s) =
      (immediateRender p (dimPixel (breathFactor p s.breath) s.base) s).setBreath ((s.breath + p.BREATH_STEP) % p.TURN) := rfl

theorem breathFactor_eq (p : Params) (a : Nat) :
    breathFactor p a = 3 * ((p.Sin a + 1) / 2) ^ 2 - 2 * ((p.Sin a + 1) / 2) ^ 3 := by
  unfold breathFactor
  ring

/-- Settles O30: the smoothstep of a sine in range lies in [0, 1], so each product is floored and not wrapped. -/
theorem tickBreathingDimsBase : Obligations.TickBreathingDimsBase := by
  intro s now rest hw hin hm hbreath d x f
  have hr : renderer d s.mode = some (renderBreathing d) := by rw [hm]; rfl
  have hf : breathFactor d s.breath = f := breathFactor_eq d s.breath
  obtain ⟨hlow, hhigh⟩ := breathFactor_range Config.device_valid.sinRange hbreath
  refine ⟨dimPixel f s.base, dimPixel_channel (hf ▸ hlow) (hf ▸ hhigh) s.base, ?_⟩
  rw [step_tick_of_renderer hw hin hr, emitFrame_renderBreathing, immediateRender_eq, ← hf]
  rfl

/-- Dimming by a fraction of whole numbers is the floor of a division. -/
theorem dimPixel_channel_div {n k : Nat} (hk : 0 < k) (hn : n ≤ k) (px : Pixel) (c : Channel) :
    ((dimPixel ((n : Rat) / k) px).channel c).toNat = (px.channel c).toNat * n / k := by
  have hkpos : (0 : Rat) < k := Nat.cast_pos.mpr hk
  have hlow : 0 ≤ (n : Rat) / k := by positivity
  have hhigh : (n : Rat) / k ≤ 1 := (div_le_one hkpos).mpr (Nat.cast_le.mpr hn)
  have hfloor := dimPixel_channel hlow hhigh px c
  rw [← mul_div_assoc, ← Nat.cast_mul, Rat.floor_natCast_div_natCast] at hfloor
  exact_mod_cast hfloor

theorem dimPixel_one (px : Pixel) : dimPixel 1 px = px := by
  refine pixel_ext fun c => BitVec.eq_of_toNat_eq ?_
  simpa using dimPixel_channel_div Nat.one_pos le_rfl px c

@[simp] theorem channel_black (c : Channel) : Pixel.black.channel c = 0#8 := by cases c <;> rfl

theorem dimPixel_zero (px : Pixel) : dimPixel 0 px = .black := by
  refine pixel_ext fun c => BitVec.eq_of_toNat_eq ?_
  have hzero := dimPixel_channel_div Nat.one_pos (Nat.zero_le 1) px c
  simpa using hzero

theorem renderBreathing_fb {p : Params} {s : State} {f : Rat} (h : breathFactor p s.breath = f) :
    (renderBreathing p s).fb = List.replicate p.N (dimPixel f s.base) := by
  rw [← h]
  rfl

/-- Settles O31: the named sine values give the factors 1, 0, 1/2 and 27/32. -/
theorem breathingAtNamedAngles : Obligations.BreathingAtNamedAngles := by
  refine fun p s => ⟨fun hsin hs => ?at90, fun hsin hs => ?at270, fun hsin hs => ?at0, fun ⟨hsin, _⟩ hs => ?at30⟩
  case at90 =>
    have hf : breathFactor p s.breath = 1 := by rw [breathFactor_eq, hs, hsin]; norm_num
    rw [renderBreathing_fb hf, dimPixel_one]
  case at270 =>
    have hf : breathFactor p s.breath = 0 := by rw [breathFactor_eq, hs, hsin]; norm_num
    rw [renderBreathing_fb hf, dimPixel_zero]
    rfl
  case at0 =>
    have hf : breathFactor p s.breath = (1 : Nat) / (2 : Nat) := by rw [breathFactor_eq, hs, hsin]; norm_num
    rw [renderBreathing_fb hf]
    intro px hpx c
    rw [List.eq_of_mem_replicate hpx, dimPixel_channel_div (by decide) (by decide), Nat.mul_one]
  case at30 =>
    have hf : breathFactor p s.breath = (27 : Nat) / (32 : Nat) := by rw [breathFactor_eq, hs, hsin]; norm_num
    rw [renderBreathing_fb hf]
    intro px hpx c
    rw [List.eq_of_mem_replicate hpx, dimPixel_channel_div (by decide) (by decide)]

/-! Painted frame buffers. -/

theorem getElem?_map_range {n i : Nat} {f : Nat → Pixel} {px : Pixel} (h : ((List.range n).map f)[i]? = some px) :
    i < n ∧ f i = px := by
  obtain ⟨hi, hpx⟩ := List.getElem?_eq_some_iff.mp h
  exact ⟨by simpa using hi, by simpa using hpx⟩

theorem map_range_eq_replicate {n : Nat} {f : Nat → Pixel} {px : Pixel} (h : ∀ i < n, f i = px) :
    (List.range n).map f = List.replicate n px := by
  refine List.eq_replicate_iff.mpr ⟨by simp, fun b hb => ?_⟩
  obtain ⟨i, hi, rfl⟩ := List.mem_map.mp hb
  exact h i (List.mem_range.mp hi)

/-! Chase (41_effect_engine.md R116). -/

theorem chaseFalloff_eq (n : Nat) :
    chaseFalloff n = if n = 0 then 1 else if n = 1 then 3 / 5 else if n = 2 then 3 / 10 else 0 := by
  unfold chaseFalloff
  split <;> simp_all

/-- Settles O32: falloff and pulse lie in [0, 1], so each product is floored and not wrapped. -/
theorem tickChaseLightsAround : Obligations.TickChaseLightsAround := by
  intro s now rest hw hin hm hpos hpulse d g dist f
  have hr : renderer d s.mode = some (renderChase d) := by rw [hm]; rfl
  refine ⟨(List.range d.N).map fun i => dimPixel (chaseFalloff (chaseDistance d s.chasePos i) * pulseFactor d s.pulse) s.base,
    by simp, fun i px hpx c => ?pixel, ?step⟩
  case pixel =>
    obtain ⟨hi, rfl⟩ := getElem?_map_range hpx
    obtain ⟨hlow, hhigh⟩ := chaseFactor_range Config.device_valid.sinRange hpulse (chaseDistance d s.chasePos i)
    rw [dimPixel_channel hlow hhigh, chaseDistance_eq hpos hi, chaseFalloff_eq, mul_assoc]
    rfl
  case step =>
    rw [step_tick_of_renderer hw hin hr, emitFrame_eq]
    rfl

/-- What a Chase tick leaves of the conditions for the next one, with the position one step on. -/
theorem step_chase_tick {s : State} {now : Nat} {rest : List Event} (hw : s.wasReset = true)
    (hin : s.inputs = .tick now :: rest) (hm : s.mode = 4) :
    ∃ t, step s = .next t ∧ t.wasReset = true ∧ t.inputs = rest ∧ t.mode = 4 ∧
      t.chasePos = (s.chasePos + 1) % Config.device.N := by
  have hr : renderer Config.device s.mode = some (renderChase Config.device) := by rw [hm]; rfl
  exact ⟨_, step_tick_of_renderer hw hin hr, hw, rfl, hm, rfl⟩

theorem run_succ_of_step {s t : State} (h : step s = .next t) (k : Nat) : core.run (k + 1) s = core.run k t := by
  have hcore : core.step s = .next t := h
  simp only [Host.Core.run, hcore]

theorem run_chase_ticks {ticks rest : List Event} (hticks : ∀ e ∈ ticks, ∃ now, e = .tick now) {s : State}
    (hw : s.wasReset = true) (hm : s.mode = 4) (hpos : s.chasePos < Config.device.N) (hin : s.inputs = ticks ++ rest) :
    ∃ t : State, core.run ticks.length s = .next t ∧ t.mode = 4 ∧
      t.chasePos = (s.chasePos + ticks.length) % Config.device.N := by
  induction ticks generalizing s with
  | nil => exact ⟨s, rfl, hm, (Nat.mod_eq_of_lt hpos).symm⟩
  | cons e ticks ih =>
    obtain ⟨now, rfl⟩ := hticks e List.mem_cons_self
    obtain ⟨u, hstep, hwu, hinu, hmu, hposu⟩ := step_chase_tick hw hin hm
    have hposLt : u.chasePos < Config.device.N := hposu ▸ Nat.mod_lt _ Config.device_valid.N_pos
    obtain ⟨t, hrun, hmt, hpost⟩ := ih (fun e he => hticks e (List.mem_cons_of_mem _ he)) hwu hmu hposLt hinu
    refine ⟨t, (run_succ_of_step hstep ticks.length).trans hrun, hmt, ?_⟩
    rw [hpost, hposu, Nat.mod_add_mod, List.length_cons, Nat.add_assoc, Nat.add_comm 1]

/-- Around a circle of `n`, each index is at one distance ahead. -/
theorem existsUnique_distance {n pos i : Nat} (hpos : pos < n) (hi : i < n) : ∃! k, k < n ∧ (pos + k) % n = i := by
  refine existsUnique_of_exists_of_unique ?exist ?unique
  case exist =>
    by_cases hle : pos ≤ i
    · exact ⟨i - pos, by omega, by rw [Nat.add_sub_cancel' hle, Nat.mod_eq_of_lt hi]⟩
    · refine ⟨i + n - pos, by omega, ?_⟩
      rw [show pos + (i + n - pos) = i + n by omega, Nat.add_mod_right, Nat.mod_eq_of_lt hi]
  case unique =>
    rintro k k' ⟨hk, hki⟩ ⟨hk', hki'⟩
    exact (Nat.ModEq.add_left_cancel' pos (hki.trans hki'.symm)).eq_of_lt_of_lt hk hk'

/-- Settles O33: an induction over the ticks, and the counting of positions around the strip. -/
theorem chaseVisitsEveryIndex : Obligations.ChaseVisitsEveryIndex := by
  intro s ticks rest hw hm hpos hin hticks
  exact ⟨run_chase_ticks hticks hw hm hpos hin, fun i hi => existsUnique_distance hpos hi⟩

/-! Music (41_effect_engine.md R117). -/

section
variable {p : Params} {level : Byte} {base : Pixel} {i : Nat}

theorem musicPixel_lit (h : i < level.toNat * p.N / 255) : musicPixel p level base i = base := if_pos h

theorem musicPixel_beyond (h : level.toNat * p.N / 255 < i) : musicPixel p level base i = .black := by
  unfold musicPixel
  rw [if_neg (by omega), if_neg (by omega)]

theorem musicPixel_edge (h : i = level.toNat * p.N / 255) (c : Channel) :
    ((musicPixel p level base i).channel c).toNat = (base.channel c).toNat * (level.toNat * p.N % 255) / 255 := by
  have hrem : level.toNat * p.N % 255 < 255 := Nat.mod_lt _ (by decide)
  have hbyte : (base.channel c).toNat * (level.toNat * p.N % 255) / 255 ≤ 255 :=
    Nat.div_le_of_le_mul (Nat.mul_le_mul (by omega) (by omega))
  unfold musicPixel
  rw [if_neg (by omega), if_pos h, ← channelOfNat_toNat hbyte]
  cases c <;> rfl

end

/-- Settles O34: a pixel lies below, at or beyond the edge of the bar; at the two ends of the level there is one part only. -/
theorem tickMusicDrawsBar : Obligations.TickMusicDrawsBar := by
  intro s now rest hw hin hm d lit rem
  have hr : renderer d s.mode = some (renderMusic d) := by rw [hm]; rfl
  refine ⟨(List.range d.N).map (musicPixel d s.music s.base), by simp, fun i px hpx => ?pixel, fun hm => ?empty,
    fun hm => ?full, ?step⟩
  case pixel =>
    obtain ⟨-, rfl⟩ := getElem?_map_range hpx
    exact ⟨musicPixel_lit, musicPixel_edge, musicPixel_beyond⟩
  case empty =>
    refine map_range_eq_replicate (px := .black) fun i _ => ?_
    have hlit : s.music.toNat * d.N / 255 = 0 := by rw [hm]; simp
    rcases Nat.eq_zero_or_pos i with rfl | hi
    · refine pixel_ext fun c => BitVec.eq_of_toNat_eq ?_
      rw [musicPixel_edge hlit.symm, hm]
      simp
    · exact musicPixel_beyond (by omega)
  case full =>
    refine map_range_eq_replicate fun i hi => musicPixel_lit ?_
    rw [hm]
    show i < 255 * d.N / 255
    omega
  case step =>
    rw [step_tick_of_renderer hw hin hr, emitFrame_eq]
    rfl

/-! ColorCycle (41_effect_engine.md R118). -/

theorem emitFrame_renderColorCycle (p : Params) (s : State) :
    emitFrame p (renderColorCycle p s) = immediateRender p (cycled p s).base (cycled p s) := rfl

theorem cycleDue_iff (p : Params) (s : State) :
    cycleDue p s = true ↔
      (p.CYCLE_INTERVAL_MS : Int) ≤ ((s.now % 2 ^ p.TIME_BITS : Nat) - (s.cycLast : Int)) % ((2 ^ p.TIME_BITS : Nat) : Int) := by
  have hturn : ((2 ^ p.TIME_BITS : Nat) : Int) ≠ 0 := by exact_mod_cast (Nat.two_pow_pos _).ne'
  unfold cycleDue elapsedSince timeInput
  rw [decide_eq_true_iff, Int.le_toNat (Int.emod_nonneg _ hturn)]

/-- Settles O35: the state painted from is the updated one exactly when an update is due. -/
theorem tickColorCycleByInterval : Obligations.TickColorCycleByInterval := by
  intro s now rest hw hin hm d turn stamp elapsed due hue
  have hr : renderer d s.mode = some (renderColorCycle d) := by rw [hm]; rfl
  have hdue : cycleDue d (s.takeInput rest now) = true ↔ due := cycleDue_iff d (s.takeInput rest now)
  refine ⟨_, step_tick_of_renderer hw hin hr, ?_⟩
  rw [emitFrame_renderColorCycle, immediateRender_eq, cycled]
  split
  case isTrue h => exact ⟨fun _ => ⟨rfl, rfl, rfl⟩, fun hnot => absurd (hdue.mp h) hnot, rfl⟩
  case isFalse h => exact ⟨fun hyes => absurd (hdue.mpr hyes) h, fun _ => ⟨rfl, rfl, rfl⟩, rfl⟩

end Sys2Proof.Machine

/-! ## Proofs: connection signals, reserved modes, the mode

`Connect` and `Disconnect` (60_exceptions.md R180, R181), the reserved modes (41_effect_engine.md R119), and the mode state machine
(R111). -/
namespace Sys2Proof.Machine

/-! The connection signals. -/

/-- Settles O37: the frames sent and what is owed after them are those of the sequence. -/
theorem connectPlaysSequence : Obligations.ConnectPlaysSequence := by
  intro s now rest hw hin d frames
  refine ⟨(List.range d.N).map (d.freePixel s.draws), sentFrames d s.latch frames, by simp,
    sentFrames_bits d s.latch frames, sentFrames_idleBefore d s.latch frames, ?_⟩
  rw [step_connect hw hin, connect_sentFrames_eq]
  rfl

/-- `Disconnect` is OFF with the flag cleared (60_exceptions.md R181). -/
theorem disconnect_eq_turnOff (p : Params) (s : State) : disconnect p s = turnOff p (clearConnected s) := rfl

/-- Settles O38: the state after OFF of a core with the flag cleared. -/
theorem disconnectForcesOff : Obligations.DisconnectForcesOff := by
  intro s now rest hw hin
  rw [step_disconnect hw hin, disconnect_eq_turnOff, turnOff_eq]
  rfl

/-! Reserved modes. -/

theorem renderer_of_reserved (p : Params) {m : BitVec 8} (h : 7 ≤ m.toNat) : renderer p m = none := by
  unfold renderer
  split
  case h_8 => rfl
  all_goals omega

theorem receiveMessage_completes {bytes : List Byte} (hlen : bytes.length ≤ Config.device.MSG_MAX) (s : State) :
    ∃ t, receiveMessage bytes s = .next t := by
  cases hdecode : decode bytes with
  | ok i => exact ⟨_, (receiveMessage_ok hlen hdecode s).trans (exec_eq i s)⟩
  | error why => exact ⟨_, receiveMessage_error hlen hdecode s⟩

/-- Settles O36: a reserved mode has no renderer, and nothing but a tick looks for one. -/
theorem tickInReservedModeRefused : Obligations.TickInReservedModeRefused := by
  refine ⟨fun s now rest hw hin hm => ?tick, fun s i _ => ⟨_, exec_eq i s⟩, fun s e rest hw hin _ hne hlen => ?others⟩
  case tick =>
    rw [step_tick hw hin]
    exact tick_of_no_renderer (renderer_of_reserved _ hm)
  case others =>
    cases e with
    | reset => exact ⟨_, step_reset hin⟩
    | msg bytes now =>
      rw [step_msg hw hin]
      exact receiveMessage_completes (hlen bytes now rfl) _
    | tick now => exact absurd rfl (hne now)
    | connect now => exact ⟨_, step_connect hw hin⟩
    | disconnect now => exact ⟨_, step_disconnect hw hin⟩

/-! The mode state machine. -/

theorem turnOff_mode (p : Params) (s : State) : (turnOff p s).mode = 0 := by rw [turnOff_eq]

theorem connect_mode (p : Params) (s : State) : (connect p s).mode = s.mode := by rw [connect_sentFrames_eq]

/-- MODE after a message, instruction by instruction (41_effect_engine.md R111). -/
theorem receiveMessage_mode {bytes : List Byte} {s t : State} (h : receiveMessage bytes s = .next t) (now : Nat) :
    t.mode = modeAfter s.mode (.msg bytes now) := by
  rcases receiveMessage_effect h with ⟨i, r, hi, rfl⟩ | ⟨why, r, hwhy, rfl⟩
  · rw [State.pushStatus_mode]
    cases i <;> simp only [modeAfter, hi]
    case offB | offA => exact turnOff_mode _ s
    case setmodeB m | setmodeA m => exact setModeTo_mode _ m s
    all_goals rfl
  · simp only [modeAfter, hwhy]
    rfl

/-- Settles O44: no event but a message or `Disconnect` writes MODE, and a Reset sets it to Off. -/
theorem modeFollowsTransitionTable : Obligations.ModeFollowsTransitionTable := by
  intro s t e rest hin hstep
  rw [step_eq_takeEvent hin] at hstep
  cases e with
  | reset => cases hstep; rfl
  | msg bytes now =>
    obtain ⟨-, hmsg⟩ := afterReset_next hstep
    exact receiveMessage_mode hmsg now
  | tick now =>
    obtain ⟨-, htick⟩ := afterReset_next hstep
    obtain ⟨hmode, -⟩ := tick_keeps_mode_music_bright_conn htick
    exact hmode
  | connect now =>
    obtain ⟨-, ht⟩ := afterReset_next hstep
    cases ht
    exact connect_mode _ _
  | disconnect now =>
    obtain ⟨-, ht⟩ := afterReset_next hstep
    cases ht
    exact turnOff_mode _ _

end Sys2Proof.Machine
